-- ==== Sys2Proof/Word.lean ====
section
/-! DEFINITION. Words of the GN318: bytes, the 16-bit words of the flux and CRC arithmetic, and little-endian reads of card fields. -/

namespace Sys2Proof

/-- One byte, on the track, on the card link or in a card record (spec 00, Conventions). -/
abbrev Byte := BitVec 8

/-- A 16-bit word: the half-cells of one byte time (R41), or a CRC register (R44). -/
abbrev Word16 := BitVec 16

end Sys2Proof
end

