-- ==== Sys2Proof/Syntax.lean ====
section
/-! DEFINITION. The commands of the GN318: one constructor for each row of spec/opcode_table.json. The table gives its rows no
operands; the operands here are what the rules of each row need from outside (log 25). -/

namespace Sys2Proof

/-- The two drive units (spec 00, State and value names). -/
inductive Drive where
  | a
  | b
deriving DecidableEq, Repr

/-- The unit that is not the given one. -/
def Drive.other : Drive → Drive
  | .a => .b
  | .b => .a

/-- The number of a cable line: SEL0 or SEL1, MOTOR0 or MOTOR1 (R156, R158). -/
inductive CableLine where
  | l0
  | l1
deriving DecidableEq, Repr

/-- The four panel keys (10, introduction). -/
inductive Key where
  | kUnit
  | kDown
  | kUp
  | kLoad
deriving DecidableEq, Repr

/-- How one block of a read comes back, time-outs apart, which are commands of their own (R143): with its data and the link check
that came with it, or with a card error. -/
inductive ReadResult where
  | block (data : List Byte) (check : Word16)
  | cardError
deriving DecidableEq, Repr

/-- How one block of a write ends, time-outs apart (R143): accepted and its busy period over in time, refused by the card because
the link check did not match there, or answered with a card error or a rejection. -/
inductive WriteResult where
  | accepted
  | checkMismatch
  | rejected
deriving DecidableEq, Repr

/-- What a card answers in an initialization step (R141): a plain response, an error response, the ready report, or the identify
values. No response at all is LINK_RESPONSE_TIMEOUT. -/
inductive InitResponse where
  | response
  | errorResponse
  | readyReport
  | identify (serial : Nat) (date : Nat) (capacity : Nat)
deriving DecidableEq, Repr

/-- A falling edge of WDATA (R58, R183): the master clocks since the falling edge before it, and how long the line then stays
asserted, in nanoseconds. -/
structure FluxEdge where
  since : Nat
  width : Nat
deriving DecidableEq, Repr

/-- A falling edge of STEP (R159, R183): DIR as it stands at the edge (true is asserted, toward higher cylinders), and how long STEP
then stays asserted, in nanoseconds. -/
structure StepEdge where
  dir : Bool
  width : Nat
deriving DecidableEq, Repr

/-- The commands, one for each row of spec/opcode_table.json, in the table's order. -/
inductive Instr where
  /-- POWER_ON_RESET (R183). -/
  | powerOnReset
  /-- BYTE_TIME_EXPIRY (R28). -/
  | byteTimeExpiry (u : Drive)
  /-- SPIN_UP_EXPIRY (R32). -/
  | spinUpExpiry (u : Drive)
  /-- MOTOR_ON (R31, R158): the motor line is asserted. -/
  | motorOn (line : CableLine)
  /-- MOTOR_OFF (R33, R158): the motor line is released. -/
  | motorOff (line : CableLine)
  /-- SELECT (R157): the select line is asserted. -/
  | select (line : CableLine)
  /-- DESELECT (R157): the select line is released. -/
  | deselect (line : CableLine)
  /-- STEP_PULSE (R159, R183). -/
  | stepPulse (edge : StepEdge)
  /-- ARRIVAL (R85, R162): the step-settle timer of the unit expires. -/
  | arrival (u : Drive)
  /-- SIDE_CHANGE (R164): the SIDE level changes to its other value. -/
  | sideChange
  /-- WGATE_ASSERT (R54). -/
  | wgateAssert
  /-- WGATE_RELEASE (R56). -/
  | wgateRelease
  /-- DECODED_BYTE (R58): the flux that completes a byte group, as the falling edges of WDATA, oldest first; the last one comes at
  the moment of the command. -/
  | decodedByte (edges : List FluxEdge)
  /-- FLUX_VIOLATION (R60): an interval grows past the upper bound with no further pulse. -/
  | fluxViolation
  /-- DEMAND_TAKES_LINE (R88): the unit's waiting demands are examined again. -/
  | demandTakesLine (u : Drive)
  /-- HEADER_TRANSACTION_END (R90). -/
  | headerTransactionEnd
  /-- BODY_TRANSACTION_END (R90). -/
  | bodyTransactionEnd
  /-- LINGER_EXPIRY (R105). -/
  | lingerExpiry (u : Drive)
  /-- ARBITER_GRANT (R148). -/
  | arbiterGrant
  /-- READ_BLOCK_OUTCOME (R144). -/
  | readBlockOutcome (r : ReadResult)
  /-- WRITE_BLOCK_OUTCOME (R145). -/
  | writeBlockOutcome (r : WriteResult)
  /-- STOP_BUSY_END (R146). -/
  | stopBusyEnd
  /-- LINK_RESPONSE_TIMEOUT (R143). -/
  | linkResponseTimeout
  /-- READ_DATA_TIMEOUT (R143). -/
  | readDataTimeout
  /-- WRITE_BUSY_TIMEOUT (R143). -/
  | writeBusyTimeout
  /-- DRAIN_COMPLETE (R108). -/
  | drainComplete
  /-- CARD_DETECT_ASSERT (R140). -/
  | cardDetectAssert
  /-- DEBOUNCE_EXPIRY (R140). -/
  | debounceExpiry
  /-- INIT_STEP_RESPONSE (R141): the card's answer, and the level of the lock contact (true is asserted, locked). -/
  | initStepResponse (r : InitResponse) (lock : Bool)
  /-- INIT_TIMER_EXPIRY (R141). -/
  | initTimerExpiry
  /-- CARD_REMOVAL (R153): the contact is released in a state other than ABSENT. -/
  | cardRemoval
  /-- PARK_TIMER_EXPIRY (R151). -/
  | parkTimerExpiry
  /-- CATALOGUE_HEADER_READ_END (R120). -/
  | catalogueHeaderReadEnd
  /-- DIRECTORY_READ_END (R121). -/
  | directoryReadEnd
  /-- SAFE_POINT (R130). -/
  | safePoint (u : Drive)
  /-- CHANGE_INTERVAL_EXPIRY (R131). -/
  | changeIntervalExpiry (u : Drive)
  /-- IMAGE_HEADER_READ_END (R125). -/
  | imageHeaderReadEnd
  /-- KEY_PRESS (R171): the key's contact has been closed for 20 ms. -/
  | keyPress (k : Key)
  /-- KEY_RELEASE (R171): the key's contact has been open for 20 ms. -/
  | keyRelease (k : Key)
  /-- HOLD_TIMER_EXPIRY (R171). -/
  | holdTimerExpiry
  /-- CANDIDATE_TIMER_EXPIRY (R173). -/
  | candidateTimerExpiry
  /-- CARD_DETECT_RELEASE (R140): the contact is released in ABSENT. -/
  | cardDetectRelease
deriving DecidableEq, Repr

end Sys2Proof
end

