-- ==== Sys2Proof/Decode.lean ====
section
/-! DEFINITION. The words of the table. spec/opcode_table.json gives no row any bits (98_reader.md counts 0 rows with fixed bits and
0 with fields), so no word spells a command (log 25). -/

namespace Sys2Proof

/-- The command that a word of `nbits` bits spells: none, because the table gives no row bits. -/
def decodeTableWord (_nbits _w : Nat) : Option Instr := none

end Sys2Proof
end

