-- ==== Sys2Proof/Config.lean ====
section
/-! DEFINITION. What the part fixes for good: its clock, its sizes and its fixed times. The settings that a card changes are the
working configuration (Machine/State.lean, WorkConfig). No constant here is a free value: the spec calls no value undefined
(log 21). -/

namespace Sys2Proof.Config

/-- Master clocks in one millisecond: 24.000 MHz (00, Key characteristics). -/
def clocksPerMs : Nat := 24000

/-- Bytes in a card block (00, Conventions). -/
def blockBytes : Nat := 512

/-- Bytes in a line store and in the staging buffer (R16, R70, R79). -/
def lineBytes : Nat := 16384

/-- Sectors a record or a claim holds at most (R2, R70). -/
def maxSectors : Nat := 64

/-- The largest position a sector record holds (R10). -/
def maxPos : Nat := 65535

/-- Half-width of the data-mark window, in byte times (R66). -/
def markWindow : Nat := 32

/-- Attempts of a read transaction, and of each block of a write (R144, R145). -/
def maxAttempts : Nat := 3

/-- Insertion debounce: 50 ms (R140). -/
def debounceMs : Nat := 50

/-- Initialization bound: 1 s (R141). -/
def initMs : Nat := 1000

/-- Hold time of LOAD, and of UP and DOWN: 2 s (R171). -/
def holdMs : Nat := 2000

/-- Hold time of UNIT and LOAD: 3 s (R171). -/
def restartHoldMs : Nat := 3000

/-- Candidate timeout: 10 s (R173). -/
def candidateMs : Nat := 10000

/-- Master clocks of one RDATA pulse (R183). -/
def pulseClocks : Nat := 12

/-- Shortest assertion of WDATA that is taken as a pulse, in nanoseconds (R183). -/
def fluxMinNs : Nat := 150

/-- Shortest assertion of STEP that is taken as a pulse, in nanoseconds: 1 us (R183, Cable timing characteristics). -/
def stepMinNs : Nat := 1000

/-- Time in which every character of the display is refreshed: 6 ms (R183). -/
def refreshMs : Nat := 6

/-- Period of a flashing character: 250 ms shown and 250 ms dark (R177). -/
def flashMs : Nat := 500

/-- A time in milliseconds as master clocks. -/
def ms (n : Nat) : Nat := n * clocksPerMs

end Sys2Proof.Config
end

