-- ==== Sys2Proof/Machine/State.lean ====
section
/-! DEFINITION. The state of the GN318 as plain data: every field that spec/ names (INVENTORY.md, State, lists them with their
rules), the queue of waiting commands, and the state after reset.

The state has two parts beside the queue. `Mech` is what a mechanism would have: the input levels, the rotation timers, the line
interface and the emit cursor. `Store` is everything else: track cache, write decoder and staging buffer, mark table, write-back
controller, image manager, card link and panel. An operation on the `Store` cannot move a head or turn a disk. -/

namespace Sys2Proof.Machine

/-! ### Track records (01) -/

/-- Flux encoding of a track (R1). -/
inductive Encoding where
  | fm
  | mfm
deriving DecidableEq, Repr

/-- Kind of a mark (R37). -/
inductive MarkKind where
  | index
  | ident
  | data
  | deleted
deriving DecidableEq, Repr

/-- Kind of a data mark (R2). -/
inductive DataKind where
  | data
  | deleted
deriving DecidableEq, Repr

/-- The triple that names one track (R1). -/
structure TrackKey where
  slot : Nat
  cyl : Nat
  head : Nat
deriving DecidableEq, Repr

/-- The data side of a sector record, present while its data-present flag is set (R2). -/
structure DataPart where
  /-- data-mark offset d -/
  d : Nat
  kind : DataKind
  /-- data identifier byte -/
  ident : Byte
  /-- data fault flag -/
  fault : Bool
  bytes : List Byte
deriving DecidableEq, Repr

/-- A sector record (R2). The data-present flag is set exactly while `data` is some. -/
structure Sector where
  pos : Nat
  c : Byte
  h : Byte
  r : Byte
  n : Byte
  /-- ID identifier byte -/
  ident : Byte
  /-- ID fault flag -/
  idFault : Bool
  data : Option DataPart
  overflow : Bool
  shifted : Bool
deriving DecidableEq, Repr

/-- A track record: header and sector list (R1). -/
structure TrackRecord where
  key : TrackKey
  blank : Bool
  enc : Encoding
  /-- sync length s -/
  sync : Nat
  /-- gap fill byte -/
  fill : Byte
  /-- index-mark position -/
  indexPos : Option Nat
  truncated : Bool
  sectors : List Sector
deriving DecidableEq, Repr

/-! ### Mark table (03) -/

/-- One entry of the mark table (R37). -/
structure MarkEntry where
  enc : Encoding
  kind : MarkKind
  /-- prefix count, 0..3 -/
  count : Nat
  /-- prefix data byte -/
  preData : Byte
  /-- prefix clock pattern -/
  preClock : Byte
  /-- identifier byte -/
  ident : Byte
  /-- identifier clock pattern -/
  idClock : Byte
  /-- identifier mask -/
  mask : Byte
deriving DecidableEq, Repr

/-- The default mark table (R38). -/
def defaultMarks : Vector MarkEntry 8 :=
  #v[⟨.mfm, .ident, 3, 0xA1, 0x0A, 0xFE, 0xFF, 0x00⟩,
     ⟨.mfm, .data, 3, 0xA1, 0x0A, 0xFB, 0xFF, 0x00⟩,
     ⟨.mfm, .deleted, 3, 0xA1, 0x0A, 0xF8, 0xFF, 0x00⟩,
     ⟨.mfm, .index, 3, 0xC2, 0x14, 0xFC, 0xFF, 0x00⟩,
     ⟨.fm, .ident, 0, 0x00, 0xFF, 0xFE, 0xC7, 0x00⟩,
     ⟨.fm, .data, 0, 0x00, 0xFF, 0xFB, 0xC7, 0x00⟩,
     ⟨.fm, .deleted, 0, 0x00, 0xFF, 0xF8, 0xC7, 0x00⟩,
     ⟨.fm, .index, 0, 0x00, 0xFF, 0xFC, 0xD7, 0x00⟩]

/-! ### Mechanism: inputs, rotation, line interface, emit cursor (02, 03, 09) -/

/-- A set of panel keys. -/
structure KeySet where
  kUnit : Bool
  kDown : Bool
  kUp : Bool
  kLoad : Bool
deriving DecidableEq, Repr

/-- No key. -/
def KeySet.empty : KeySet := ⟨false, false, false, false⟩

/-- Levels of the inputs; true is asserted (or a closed contact). -/
structure Pins where
  sel0 : Bool
  sel1 : Bool
  motor0 : Bool
  motor1 : Bool
  dir : Bool
  side : Bool
  wgate : Bool
  cd : Bool
  lock : Bool
  keys : KeySet
deriving DecidableEq, Repr

/-- State of a rotation timer (R23). -/
inductive RotState where
  | stopped
  | spinning
  | rotating
deriving DecidableEq, Repr

/-- Rotation parameters of a mounted image (R24 to R27). -/
structure RotParams where
  rate : Nat
  /-- half-cell divider D -/
  d : Nat
  /-- track length T -/
  t : Nat
  /-- index width W -/
  w : Nat
deriving DecidableEq, Repr

/-- A rotation timer (R23). -/
structure Rotation where
  state : RotState
  params : Option RotParams
  spinUp : Option Nat
  p : Nat
  divider : Nat
deriving DecidableEq, Repr

/-- A rotation timer after reset (R23). -/
def Rotation.reset : Rotation := ⟨.stopped, none, none, 0, 0⟩

/-- The line interface's fields of one unit (R155). -/
structure UnitLines where
  selected : Bool
  motorIn : Bool
  /-- head position -/
  head : Nat
  /-- false is side 0, true is side 1 -/
  side : Bool
  settle : Option Nat
  /-- change latch -/
  latch : Bool
  /-- panel protect -/
  protect : Bool
deriving DecidableEq, Repr

/-- The line interface's fields after reset (R155), with the inputs released. -/
def UnitLines.reset : UnitLines := ⟨false, false, 0, false, none, true, false⟩

/-- What a mechanism of one unit has. -/
structure UnitMech where
  rot : Rotation
  lines : UnitLines
deriving DecidableEq, Repr

/-- The emit cursor (R46), with the half-cells of the byte time in progress. -/
structure Cursor where
  source : Option Drive
  line : Option (Fin 8)
  emitting : Bool
  /-- previous data bit -/
  prev : Bool
  /-- the sixteen half-cells of the byte in progress, the first to be sent in bit 15 (log 28) -/
  cells : Word16
deriving DecidableEq, Repr

/-- The emit cursor after reset (R46). -/
def Cursor.reset : Cursor := ⟨none, none, false, false, 0⟩

/-- Inputs, rotation timers, line interface and emit cursor. -/
structure Mech where
  pins : Pins
  a : UnitMech
  b : UnitMech
  cursor : Cursor
deriving DecidableEq, Repr

/-! ### Directory and mount contexts (07) -/

/-- Write policy of an image (R135). -/
inductive Policy where
  | persist
  | scratch
  | protect
deriving DecidableEq, Repr

/-- Side of the guard range (R135). -/
inductive GuardSide where
  | low
  | high
deriving DecidableEq, Repr

/-- A clamped directory entry (R121, R122). -/
structure Entry where
  slot : Nat
  /-- format code -/
  format : Nat
  heads : Nat
  cimg : Nat
  base : Nat
  rpm : Nat
  k : Nat
  sync : Nat
  fill : Byte
  /-- default gap-2 length -/
  g2 : Nat
  policy : Policy
  guardCount : Nat
  guardSide : GuardSide
  /-- not invalid (R122) -/
  valid : Bool
deriving DecidableEq, Repr

/-- A mount request: a slot, or eject (R128). -/
inductive MountReq where
  | slot (n : Nat)
  | eject
deriving DecidableEq, Repr

/-- Mount state; CHANGING carries its stage (R127). -/
inductive MountState where
  | empty
  | mounted
  | unmounting
  | changingInterval
  | changingLookup
  | held
deriving DecidableEq, Repr

/-- A mount context (R127). -/
structure Mount where
  state : MountState
  slot : Option Nat
  entry : Option Entry
  map : Option (BitVec 168)
  /-- step ratio -/
  ratio : Nat
  target : Option MountReq
  pending : Option MountReq
  /-- change-interval timer -/
  timer : Option Nat
deriving DecidableEq, Repr

/-- A mount context after reset (R127). -/
def Mount.reset : Mount := ⟨.empty, none, none, none, 1, none, none, none⟩

/-! ### Track cache (05) -/

/-- State of a line (R80). -/
inductive LineState where
  | free
  | filling
  | clean
  | dirty
  | writing
  | fault
  | held
deriving DecidableEq, Repr

/-- A cache line (R79). -/
structure Line where
  state : LineState
  owner : Option Drive
  key : Option TrackKey
  record : Option TrackRecord
  /-- dirty block set, ascending without duplicates -/
  dirty : List Nat
  /-- scratch-modified flag -/
  scratch : Bool
  /-- abandoned mark -/
  abandoned : Bool
  /-- while FILLING: the bytes of the slot that have arrived and passed the header checks (R80, R90) -/
  arrived : List Byte
deriving DecidableEq, Repr

/-- A FREE line (R79, R97). -/
def Line.free : Line := ⟨.free, none, none, none, [], false, false, []⟩

/-- Class of a demand request (R87). -/
inductive DemandClass where
  | demand
  | prefetching
deriving DecidableEq, Repr

/-- Stage of a demand request (R87). -/
inductive DemandStage where
  | waiting
  | queued
  | inFlight
deriving DecidableEq, Repr

/-- A demand request (R87); its unit is the one whose list holds it. -/
structure Demand where
  key : TrackKey
  cls : DemandClass
  age : Nat
  line : Option (Fin 8)
  stage : DemandStage
deriving DecidableEq, Repr

/-- What the cache, the image manager and the write-back controller hold for one unit. -/
structure UnitStore where
  /-- cylinder keys (R84) -/
  cylKeys : List TrackKey
  /-- recency order, least recently presented first (R83) -/
  recency : List (Fin 8)
  /-- demand list, oldest first (R87) -/
  demands : List Demand
  /-- prefetch direction: true is toward higher cylinders (R93) -/
  prefetchUp : Bool
  /-- prefetch has gone ahead since the last arrival (R93) -/
  prefetchDone : Bool
  /-- mount context (R127) -/
  mount : Mount
  /-- resume slot (R133) -/
  resume : Option Nat
  /-- linger timer (R105) -/
  linger : Option Nat
deriving DecidableEq, Repr

/-- A unit's store after reset (R79, R102, R120, R127). -/
def UnitStore.reset : UnitStore := ⟨[], [], [], true, false, Mount.reset, none, none⟩

/-! ### Write decoder and staging buffer (04) -/

/-- State of the write decoder (R53). -/
inductive DecState where
  | idle
  | capture
  | draining
deriving DecidableEq, Repr

/-- Class of a span (R53). -/
inductive SpanClass where
  | unclassed
  | data
  | format
  | stray
  | discarded
deriving DecidableEq, Repr

/-- The field being taken (R53). An identifier field is kept for a new sector or dropped (R72). -/
inductive Field where
  | none
  | ident (keep : Bool)
  | target
  | newData
  | dropped
deriving DecidableEq, Repr

/-- The span context (R53), with the alignment of section 4.2. -/
structure SpanCtx where
  unit : Drive
  side : Bool
  /-- the bound track, fixed for the span (R57), or none where the head maps to no track of the image -/
  track : Option TrackKey
  a : Nat
  cls : SpanClass
  /-- prefix run: its pattern of sixteen half-cells -/
  run : Option Word16
  /-- prefix run: its length 0..3 -/
  runLen : Nat
  field : Field
  /-- recognizing entry, as a place 0..7 of the table -/
  entry : Option (Fin 8)
  /-- byte count of the field -/
  count : Nat
  /-- CRC accumulator -/
  crc : Word16
  /-- target: list place -/
  target : Option Nat
  /-- line of the target -/
  targetLine : Option (Fin 8)
  /-- position m of the field's mark -/
  markPos : Nat
  /-- identifier byte of the field's mark, as received -/
  ident : Byte
  /-- bytes the field takes before its two CRC bytes -/
  len : Nat
  /-- identifier field bytes taken -/
  taken : List Byte
  /-- CRC bytes received -/
  crcGot : Word16
  /-- the claim's last new sector is the latest new sector (R72) -/
  latest : Bool
  /-- the last half-cells, newest first, each with its position (at most sixteen; R59) -/
  window : List (Bool × Nat)
  /-- half-cells since the byte boundary, or none before the first match (R59) -/
  aligned : Option Nat
  /-- the interval that the last pulse of the span opened, as the master clocks of it that edges too short for a pulse have marked
  off; none before the first pulse (R58, R183) -/
  opened : Option Nat
deriving DecidableEq, Repr

/-- Every context field cleared (R53). The rule does not say which of its two values the cleared unit field names: the model puts A
(DESIGN CHOICE, log 38). -/
def SpanCtx.reset : SpanCtx :=
  { unit := .a, side := false, track := none, a := 0, cls := .unclassed, run := none, runLen := 0, field := .none,
    entry := none, count := 0, crc := 0, target := none, targetLine := none, markPos := 0, ident := 0, len := 0,
    taken := [], crcGot := 0, latest := false, window := [], aligned := none, opened := none }

/-- The write decoder (R53). -/
structure Decoder where
  state : DecState
  ctx : SpanCtx
deriving DecidableEq, Repr

/-- The data part of a new sector (R70). -/
structure NewData where
  /-- data mark position m' -/
  m : Nat
  kind : DataKind
  ident : Byte
  fault : Bool
  bytes : List Byte
deriving DecidableEq, Repr

/-- A new sector of a claim (R70). -/
structure NewSector where
  /-- ID mark position m -/
  m : Nat
  ident : Byte
  c : Byte
  h : Byte
  r : Byte
  n : Byte
  idFault : Bool
  data : Option NewData
deriving DecidableEq, Repr

/-- A claim on the staging buffer (R70). -/
structure Claim where
  owner : Drive
  key : TrackKey
  a : Nat
  b : Option Nat
  /-- new index-mark position -/
  indexM : Option Nat
  sectors : List NewSector
deriving DecidableEq, Repr

/-- The format staging buffer (R70). -/
inductive Staging where
  | empty
  | parsing (claim : Claim)
  | waiting (claim : Claim)
deriving DecidableEq, Repr

/-! ### Write-back controller (06) -/

/-- The write-back controller (R102). The two linger timers stand with their units. -/
structure WriteBack where
  queue : List (Fin 8)
  /-- current line -/
  current : Option (Fin 8)
  /-- pass cursor -/
  cursor : Option Nat
  /-- present-map write owed -/
  owed : Bool
  suspended : Bool
  /-- the pass in progress is in truncated form (R109) -/
  truncForm : Bool
  /-- drain pending -/
  drain : Bool
deriving DecidableEq, Repr

/-- The write-back controller after reset (R102). -/
def WriteBack.reset : WriteBack := ⟨[], none, none, false, false, false, false⟩

/-! ### Image manager (07) -/

/-- One mark override entry of the configuration record, as stored (R180). -/
structure RawMark where
  enc : Byte
  kind : Byte
  count : Byte
  preData : Byte
  preClock : Byte
  ident : Byte
  idClock : Byte
  mask : Byte
deriving DecidableEq, Repr

/-- The clamped working configuration (R123). Times are in ms, the park time in s. -/
structure WorkConfig where
  enableB : Bool
  /-- unit A select line is SEL1 -/
  swapSel : Bool
  /-- motor mapping is shared -/
  sharedMotor : Bool
  /-- RDYCHG mode is CHANGE -/
  changeMode : Bool
  cphys : Nat
  autoDouble : Bool
  spinUp : Nat
  change : Nat
  settle : Nat
  linger : Nat
  park : Nat
  quotaA : Nat
  quotaB : Nat
  prefetch : Bool
  /-- the override entries 1 to n, n the clamped count -/
  overrides : List RawMark
deriving DecidableEq, Repr

/-- Every default of R123. -/
def WorkConfig.default : WorkConfig :=
  { enableB := false, swapSel := false, sharedMotor := false, changeMode := true, cphys := 80, autoDouble := true,
    spinUp := 400, change := 800, settle := 3, linger := 1000, park := 5, quotaA := 4, quotaB := 4, prefetch := true,
    overrides := [] }

/-- The image manager, mount contexts apart (R120, R121, R123, R133). -/
structure Images where
  config : WorkConfig
  /-- catalogue copy -/
  catalogue : Option (List Byte)
  /-- the catalogue read that followed the initialization has not ended -/
  reading : Bool
  /-- directory table -/
  table : List Entry
  /-- a further resume write is owed -/
  resumeAgain : Bool
deriving DecidableEq, Repr

/-- The image manager after reset (R120, R123). -/
def Images.reset : Images := ⟨WorkConfig.default, none, false, [], false⟩

/-! ### Card link (08) -/

/-- Identity of a card (R138). -/
structure CardId where
  serial : Nat
  date : Nat
deriving DecidableEq, Repr

/-- State of the card link (R138). -/
inductive LinkState where
  | absent
  | initializing
  | idle
  | busy
  | parked
  | fault
deriving DecidableEq, Repr

/-- Class of a request (R147). -/
inductive ReqClass where
  | demand
  | catalogue
  | writeBack
  | prefetching
deriving DecidableEq, Repr

/-- Who asked for a read, and for which part of its work (R90, R120, R131). -/
inductive ReadJob where
  | fillHeader (l : Fin 8)
  | fillBody (l : Fin 8)
  | catHeader
  | directory
  | imageHeader (u : Drive)
deriving DecidableEq, Repr

/-- What a write carries: a record block of the pass, the image header block of the pass, or block 0 (R110, R114, R133). -/
inductive WriteJob where
  | record
  | presentMap
  | resume
deriving DecidableEq, Repr

/-- Where a write transaction stands: its block in transfer, the stop before another attempt, or the stop at its end (R145,
R146). -/
inductive WritePhase where
  | transfer
  | retryStop
  | closeStop
deriving DecidableEq, Repr

/-- A read transaction in progress (R143, R144). -/
structure ReadTxn where
  job : ReadJob
  cls : ReqClass
  /-- start block -/
  start : Nat
  /-- block count -/
  count : Nat
  /-- the block that the attempt reads now -/
  next : Nat
  attempt : Nat
  /-- age, for the classes that have one -/
  age : Option Nat
  /-- the bytes handed over so far -/
  got : List Byte
deriving DecidableEq, Repr

/-- A write transaction in progress (R143, R145). -/
structure WriteTxn where
  job : WriteJob
  cls : ReqClass
  /-- first block -/
  start : Nat
  /-- the block in transfer -/
  block : Nat
  attempt : Nat
  phase : WritePhase
  /-- the block's bytes, for the jobs whose bytes are fixed when the transfer begins (R114, R133); a record block is read from
  its line (R110) -/
  data : List Byte
deriving DecidableEq, Repr

/-- The current transaction (R138). -/
inductive Transaction where
  | read (t : ReadTxn)
  | write (t : WriteTxn)
deriving DecidableEq, Repr

/-- A waiting request of the DEMAND or PREFETCH class (R147). -/
structure FillReq where
  line : Fin 8
  /-- the body transaction, not the header transaction -/
  body : Bool
  age : Nat
  start : Nat
  count : Nat
deriving DecidableEq, Repr

/-- A waiting request of the CATALOGUE class (R147). -/
inductive CatReq where
  | header
  | directory (start : Nat) (count : Nat)
  | imageHeader (u : Drive) (base : Nat)
  | resume
deriving DecidableEq, Repr

/-- The card link controller (R138). The WRITE-BACK queue's one request is derived from the write-back controller (R147). -/
structure Link where
  state : LinkState
  debounce : Option Nat
  initTimer : Option Nat
  /-- initialization step in progress, 1 to 4 (R141) -/
  initStep : Nat
  /-- identify values of step 3 (R141) -/
  found : Option (CardId × Nat)
  identity : Option CardId
  remembered : Option CardId
  capacity : Option Nat
  /-- lock switch: locked, unlocked or none -/
  lock : Option Bool
  demandQ : List FillReq
  catQ : List CatReq
  prefetchQ : List FillReq
  current : Option Transaction
  suspendReq : Bool
  park : Option Nat
  /-- a finished read whose requester has not yet taken its step (log 6) -/
  ended : Option (ReadJob × List Byte)
deriving DecidableEq, Repr

/-- The card link controller after reset (R138). -/
def Link.reset : Link :=
  { state := .absent, debounce := none, initTimer := none, initStep := 1, found := none, identity := none,
    remembered := none, capacity := none, lock := none, demandQ := [], catQ := [], prefetchQ := [], current := none,
    suspendReq := false, park := none, ended := none }

/-! ### Panel (10) -/

/-- Fault codes (R178). -/
inductive FaultCode where
  | e1
  | e2
  | e3
  | e4
  | e5
  | e6
  | e7
  | e8
  | e9
deriving DecidableEq, Repr

/-- A gesture (R171). -/
structure Gesture where
  keys : KeySet
  timer : Option Nat
  spent : Bool
deriving DecidableEq, Repr

/-- The panel controller (R170). -/
structure Panel where
  addressed : Drive
  candidate : Option Nat
  candTimer : Option Nat
  /-- latest fault code -/
  code : Option FaultCode
  /-- fault display -/
  faultOn : Bool
  gesture : Option Gesture
  /-- restart pending -/
  restart : Bool
  /-- keys down at a reset, ignored until released -/
  ignored : KeySet
  /-- a restart took effect and no master clock has been counted since: a press that comes now fell together with it (R176; log 41) -/
  justReset : Bool
  /-- master clocks into the 6 ms in which the display is refreshed once (R183; log 31) -/
  scan : Nat
  /-- master clocks into the 500 ms in which a flashing character is shown and dark once (R177; log 31) -/
  flash : Nat
deriving DecidableEq, Repr

/-- The panel controller after reset (R170). -/
def Panel.reset : Panel := ⟨.a, none, none, none, false, none, false, KeySet.empty, false, 0, 0⟩

/-! ### The whole state -/

/-- Everything but the mechanism and the queue. -/
structure Store where
  a : UnitStore
  b : UnitStore
  lines : Vector Line 8
  /-- the age the next demand gets (R147) -/
  nextAge : Nat
  staging : Staging
  decoder : Decoder
  marks : Vector MarkEntry 8
  wb : WriteBack
  images : Images
  link : Link
  panel : Panel
deriving DecidableEq, Repr

/-- The store after reset. -/
def Store.reset : Store :=
  { a := UnitStore.reset, b := UnitStore.reset, lines := Vector.replicate 8 Line.free, nextAge := 0, staging := .empty,
    decoder := ⟨.idle, SpanCtx.reset⟩, marks := defaultMarks, wb := WriteBack.reset, images := Images.reset,
    link := Link.reset, panel := Panel.reset }

/-- The inputs of `State.reset`: all released (DESIGN CHOICE, log 4). -/
def Pins.released : Pins := ⟨false, false, false, false, false, false, false, false, false, KeySet.empty⟩

/-- The mechanism after reset, with the inputs released (R23, R46, R155). -/
def Mech.reset : Mech :=
  { pins := Pins.released, a := ⟨Rotation.reset, UnitLines.reset⟩, b := ⟨Rotation.reset, UnitLines.reset⟩,
    cursor := Cursor.reset }

/-- The state of the GN318, with the queue of commands that wait, first in, first out. -/
structure State where
  mech : Mech
  store : Store
  pending : List Instr
deriving DecidableEq, Repr

/-- The part right after power-on with every input released and no command waiting (R23, R38, R46, R53, R70, R79, R102, R120, R123,
R127, R138, R155, R170). -/
def State.reset : State := { mech := Mech.reset, store := Store.reset, pending := [] }

/-- Why a step of the part can stop: it cannot. Every fault of the spec is a state the part goes on from (R138 FAULT, R80 FAULT,
R178), so there is no constructor; nobody raises one, and this is safe. -/
inductive Fault where
deriving DecidableEq, Repr

/-- Why a command has no meaning. -/
inductive Refusal where
  /-- Raised by `exec` for a command that has no meaning yet; safe. No arm raises it: every row is modelled. -/
  | notModelled (mnemonic : String)
deriving DecidableEq, Repr

end Sys2Proof.Machine
end

