-- ==== Sys2Proof/Machine/Bits.lean ====
section
/-! DEFINITION. Bytes and bits: little-endian fields of card records, the interleaving of clock and data half-cells, and the CRC. -/

namespace Sys2Proof.Machine

/-- Byte `i` of a byte string; 00 beyond its end. -/
def byteAt (s : List Byte) (i : Nat) : Byte := s.getD i 0

/-- The little-endian number in the `size` bytes at `i` (00, Card data). -/
def leAt (s : List Byte) (i : Nat) : Nat → Nat
  | 0 => 0
  | size + 1 => (byteAt s i).toNat + 256 * leAt s (i + 1) size

/-- The `size` little-endian bytes of a number. -/
def leBytes (n : Nat) : Nat → List Byte
  | 0 => []
  | size + 1 => BitVec.ofNat 8 n :: leBytes (n / 256) size

/-- A byte string cut to `size` bytes, or filled up with 00. -/
def fitTo (size : Nat) (s : List Byte) : List Byte := (s ++ List.replicate (size - s.length) 0).take size

/-- Block `j` of a byte string: bytes 512 j to 512 j + 511, with 00 beyond its end (R17, R110). -/
def blockOf (s : List Byte) (j : Nat) : List Byte := fitTo Config.blockBytes (s.drop (Config.blockBytes * j))

/-- The blocks 0 .. ceil(len / 512) - 1 that a string of `len` bytes takes (R17). -/
def blockCount (len : Nat) : Nat := (len + (Config.blockBytes - 1)) / Config.blockBytes

/-- One bit into the CRC register: polynomial x^16 + x^12 + x^5 + 1 (R44). -/
def crcBit (crc : Word16) (bit : Bool) : Word16 :=
  if crc.getLsbD 15 != bit then (crc <<< 1) ^^^ 0x1021 else crc <<< 1

/-- One byte into the CRC register, most significant bit first (R44). -/
def crcByte (crc : Word16) (b : Byte) : Word16 :=
  [7, 6, 5, 4, 3, 2, 1, 0].foldl (fun c i => crcBit c (b.getLsbD i)) crc

/-- The CRC of a message, from a preset (R44, and R143 for the link check). -/
def crcOf (preset : Word16) (message : List Byte) : Word16 := message.foldl crcByte preset

/-- The CRC of a field: preset FFFF (R44). -/
def fieldCrc (message : List Byte) : Word16 := crcOf 0xFFFF message

/-- The link check of a block: preset 0000 (R143). -/
def linkCheck (block : List Byte) : Word16 := crcOf 0 block

/-- The sixteen half-cells of a byte: eight cells, most significant first, each its clock half-cell and then its data half-cell
(section 3.2). Bit 15 is sent first. -/
def halfCells (clock data : Byte) : Word16 :=
  [7, 6, 5, 4, 3, 2, 1, 0].foldl
    (fun (w : Word16) i => (w <<< 2) ||| (if clock.getLsbD i then 2 else 0) ||| (if data.getLsbD i then 1 else 0)) 0

/-- The clock half-cells of sixteen half-cells (R58: the odd ones). -/
def clockOf (w : Word16) : Byte :=
  [7, 6, 5, 4, 3, 2, 1, 0].foldl (fun (b : Byte) i => (b <<< 1) ||| (if w.getLsbD (2 * i + 1) then 1 else 0)) 0

/-- The data half-cells of sixteen half-cells (R58: the even ones). -/
def dataOf (w : Word16) : Byte :=
  [7, 6, 5, 4, 3, 2, 1, 0].foldl (fun (b : Byte) i => (b <<< 1) ||| (if w.getLsbD (2 * i) then 1 else 0)) 0

/-- Insert a number into an ascending list without duplicates. -/
def insertNat (n : Nat) : List Nat → List Nat
  | [] => [n]
  | x :: xs => if n < x then n :: x :: xs else if n = x then x :: xs else x :: insertNat n xs

/-- Add several numbers to an ascending list without duplicates. -/
def insertNats (ns : List Nat) (xs : List Nat) : List Nat := ns.foldl (fun acc n => insertNat n acc) xs

end Sys2Proof.Machine
end

