-- ==== Sys2Proof/Machine/Layout.lean ====
section
/-! DEFINITION. The arithmetic of track records: field lengths and regions (R3 to R8), the layout check (R9 to R12), the record
string (R16, R17) and the format merge (R76). -/

namespace Sys2Proof.Machine

/-! ### Field lengths -/

/-- Data length of a size code: L = 128 * 2^min(N, 6) (R3). -/
def dataLen (n : Byte) : Nat := 128 * 2 ^ (min n.toNat 6)

/-- Prefix positions of a mark: 3 for MFM, none for FM (R4, R5). -/
def markPrefix : Encoding → Nat
  | .mfm => 3
  | .fm => 0

/-- ID length: s + 10 for MFM, s + 7 for FM (R4, R5). -/
def idLength (enc : Encoding) (sync : Nat) : Nat := sync + markPrefix enc + 7

/-- Index-mark length: s + 4 for MFM, s + 1 for FM (R4, R5). -/
def indexLength (enc : Encoding) (sync : Nat) : Nat := sync + markPrefix enc + 1

/-- Bytes of a data field besides its L data bytes: 6 for MFM, 3 for FM (R4, R5). -/
def dataOverhead (enc : Encoding) : Nat := markPrefix enc + 3

/-- Default data-mark offset: 2s + 10 + g2 for MFM, 2s + 7 + g2 for FM (R7). -/
def defaultOffset (enc : Encoding) (sync g2 : Nat) : Nat := idLength enc sync + g2 + sync

/-- Footprint F of a sector (R4, R5, R6). -/
def footprint (enc : Encoding) (sync : Nat) (x : Sector) : Nat :=
  match x.data with
  | none => idLength enc sync
  | some part => part.d + dataLen x.n + dataOverhead enc

/-- Start e of the data sync run and of the data-field region of a sector with data (R6). -/
def dataRegionStart (enc : Encoding) (sync pos d : Nat) : Nat := max (pos + d - sync) (pos + idLength enc sync)

/-- [a, b) and [lo, hi) share a position. -/
def overlaps (a b lo hi : Nat) : Bool := decide (max a lo < min b hi)

/-! ### Layout check -/

/-- The walk of the layout check from a cursor (R10), with the overflow flag of R11. R45 says that the layout check, like the write decoder,
sets and clears the fault flags, while R10 has its walk change nothing but pos and the derived flags: the model follows R10 and leaves both
fault flags as they were (DESIGN CHOICE, log 49). -/
def layoutWalk (enc : Encoding) (sync t : Nat) : Nat → List Sector → List Sector
  | _, [] => []
  | c, x :: xs =>
    let moved := max x.pos c
    let pos := min moved Config.maxPos
    { x with pos := pos, shifted := decide (moved ≠ x.pos), overflow := decide (t < pos + footprint enc sync x) }
      :: layoutWalk enc sync t (moved + footprint enc sync x) xs

/-- The index-mark position that is presented: its region ends at or before T (R9). -/
def presentedIndex (t : Nat) (r : TrackRecord) : Option Nat :=
  match r.indexPos with
  | some i => if i + indexLength r.enc r.sync ≤ t then some i else none
  | none => none

/-- The cursor the layout check starts with (R9). -/
def layoutStart (t : Nat) (r : TrackRecord) : Nat :=
  match presentedIndex t r with
  | some i => i + indexLength r.enc r.sync
  | none => 0

/-- The layout check (R9 to R12). -/
def layoutCheck (t : Nat) (r : TrackRecord) : TrackRecord :=
  { r with sectors := layoutWalk r.enc r.sync t (layoutStart t r) r.sectors }

/-! ### Record string -/

/-- Room a sector takes in the record string: its descriptor and its data (R16). -/
def sectorRoom (x : Sector) : Nat := 16 + if x.data.isSome then dataLen x.n else 0

/-- Length of the string of a sector list (R16). -/
def listLength (xs : List Sector) : Nat := 64 + (xs.map sectorRoom).sum

/-- Record length (R16). -/
def recordLength (r : TrackRecord) : Nat := listLength r.sectors

/-- The leading sectors that still fit once `used` bytes are taken (R16, R115). -/
def fitPrefix (limit : Nat) : Nat → List Sector → List Sector
  | _, [] => []
  | used, x :: xs => if used + sectorRoom x ≤ limit then x :: fitPrefix limit (used + sectorRoom x) xs else []

/-- The longest leading part of a sector list whose string is at most `limit` bytes (R16, R115). -/
def fitSectors (limit : Nat) (xs : List Sector) : List Sector := fitPrefix limit 64 xs

/-- The blocks that hold a byte of [o, o + n) of the string (R17). -/
def blocksOf (o n : Nat) : List Nat :=
  if n = 0 then [] else (List.range ((o + n - 1) / Config.blockBytes + 1)).drop (o / Config.blockBytes)

/-- Every block of a record (R18). -/
def allBlocks (len : Nat) : List Nat := List.range (blockCount len)

/-- The blocks of the descriptor of the sector at place `i` (R17). -/
def descriptorBlocks (i : Nat) : List Nat := blocksOf (64 + 16 * i) 16

/-- Record offset of the data of the sector at place `i` (R17). -/
def dataOffset (xs : List Sector) (i : Nat) : Nat :=
  64 + 16 * xs.length + ((xs.take i).map fun x => if x.data.isSome then dataLen x.n else 0).sum

/-! ### Records made without the card -/

/-- A blank record (R14). -/
def blankRecord (key : TrackKey) (enc : Encoding) (sync : Nat) (fill : Byte) : TrackRecord :=
  { key := key, blank := true, enc := enc, sync := sync, fill := fill, indexPos := none, truncated := false, sectors := [] }

/-! ### Edits -/

/-- Change the sector at a place of the list. -/
def modSector (i : Nat) (f : Sector → Sector) (r : TrackRecord) : TrackRecord :=
  { r with sectors := r.sectors.modify i f }

/-- The offset that a data span keeps (R8): `m` the mark, `next` the position of the next sector in the list. -/
def keptOffset (enc : Encoding) (sync t m : Nat) (x : Sector) (next : Option Nat) : Nat :=
  let limit := match next with
    | some n => min t n
    | none => t
  max (idLength enc sync) (min (m - x.pos) (limit - x.pos - dataLen x.n - dataOverhead enc))

/-- The candidate of a data mark at `m`: the place of the presented sector with the greatest pos such that pos + ID length <= m
(R66). -/
def candidatePlace (enc : Encoding) (sync m : Nat) (xs : List Sector) : Option Nat :=
  (xs.zipIdx.foldl
    (fun (best : Option (Nat × Nat)) (xi : Sector × Nat) =>
      if !xi.1.overflow && decide (xi.1.pos + idLength enc sync ≤ m) then
        match best with
        | some (p, i) => if p < xi.1.pos then some (xi.1.pos, xi.2) else some (p, i)
        | none => some (xi.1.pos, xi.2)
      else best)
    none).map Prod.snd

/-- The target of a data mark at `m`: the candidate, if it holds a data field and the mark lies in its window (R66). -/
def targetPlace (r : TrackRecord) (m : Nat) : Option Nat :=
  match candidatePlace r.enc r.sync m r.sectors with
  | none => none
  | some i =>
    match r.sectors[i]? with
    | some x =>
      match x.data with
      | some part =>
        if m ≤ x.pos + part.d + Config.markWindow ∧ x.pos + part.d ≤ m + Config.markWindow then some i else none
      | none => none
    | none => none

/-- A stray span on one sector (R77): the sector with its fault flags, and whether any was set. -/
def strayMark (enc : Encoding) (sync a b : Nat) (x : Sector) : Sector × Bool :=
  if x.overflow then (x, false)
  else
    let hitId := overlaps a b x.pos (x.pos + idLength enc sync)
    let x1 := if hitId then { x with idFault := true } else x
    match x.data with
    | none => (x1, hitId)
    | some part =>
      if overlaps a b (dataRegionStart enc sync x.pos part.d) (x.pos + footprint enc sync x) then
        ({ x1 with data := some { part with fault := true } }, true)
      else (x1, hitId)

/-- The record after a stray span over [a, b) (R77). -/
def strayRecord (a b : Nat) (r : TrackRecord) : TrackRecord :=
  { r with sectors := r.sectors.map fun x => (strayMark r.enc r.sync a b x).1 }

/-- The descriptor blocks a stray span writes (R77, R18). -/
def strayBlocks (a b : Nat) (r : TrackRecord) : List Nat :=
  r.sectors.zipIdx.flatMap fun xi => if (strayMark r.enc r.sync a b xi.1).2 then descriptorBlocks xi.2 else []

/-! ### Format merge -/

/-- The sector record of a new sector, before the layout check (R76 step 1). -/
def placeNew (enc : Encoding) (sync : Nat) (x : NewSector) : Sector :=
  let pos := x.m - sync
  { pos := pos, c := x.c, h := x.h, r := x.r, n := x.n, ident := x.ident, idFault := x.idFault,
    data := x.data.map fun part =>
      { d := max (part.m - pos) (idLength enc sync), kind := part.kind, ident := part.ident, fault := part.fault,
        bytes := part.bytes },
    overflow := false, shifted := false }

/-- Insert a new sector in order of pos, after a sector with the same pos (R76 step 4). -/
def insertSector (x : Sector) : List Sector → List Sector
  | [] => [x]
  | y :: ys => if x.pos < y.pos then x :: y :: ys else y :: insertSector x ys

/-- The old sectors a merge keeps: not overflow, and no extent overlaps [a, b) (R76 step 2). -/
def keptOld (enc : Encoding) (sync a b : Nat) (xs : List Sector) : List Sector :=
  xs.filter fun x => !x.overflow && !overlaps a b x.pos (x.pos + footprint enc sync x)

/-- The index-mark position after a merge (R76 step 3). -/
def mergedIndex (sync a b : Nat) (old new : Option Nat) : Option Nat :=
  match new with
  | some m => some (m - sync)
  | none =>
    match old with
    | some i => if a ≤ i ∧ i < b then none else some i
    | none => none

/-- A format merge of new sectors over [a, b) into a record (R76). -/
def mergeRecord (t a b : Nat) (newIndex : Option Nat) (new : List NewSector) (r : TrackRecord) : TrackRecord :=
  let joined := (new.map (placeNew r.enc r.sync)).foldl (fun xs x => insertSector x xs) (keptOld r.enc r.sync a b r.sectors)
  layoutCheck t
    { r with
      sectors := fitSectors Config.lineBytes (joined.take Config.maxSectors),
      indexPos := mergedIndex r.sync a b r.indexPos newIndex,
      blank := false }

/-- The staged string length of a claim (R70). -/
def stagedLength (xs : List NewSector) : Nat :=
  64 + (xs.map fun x => 16 + if x.data.isSome then dataLen x.n else 0).sum

end Sys2Proof.Machine
end

