-- ==== Sys2Proof/Machine/CardRecord.lean ====
section
/-! DEFINITION. The records on the card: catalogue header and configuration record (R120, R123, R180), directory entries (R121,
R122, R181), image headers (R125, R181) and track record strings (R19, R90, R115, R116, R182). -/

namespace Sys2Proof.Machine

/-! ### Format codes (R24) -/

/-- Encoding of a format code (R24). The table gives a code above 5 none; an entry with such a code is invalid, yet it joins the directory
table with its other fields clamped (R122), and for the defaults of its sync length and g2 the model takes it as MFM (DESIGN CHOICE,
log 48). -/
def encodingOf (format : Nat) : Encoding := if format ≤ 2 then .fm else .mfm

/-- Data rate of a format code in bit/s (R24). A mounted unit has a code of 0 to 5 (R122). -/
def rateOf (format : Nat) : Nat :=
  match format with
  | 0 => 125000
  | 1 => 150000
  | 2 => 250000
  | 3 => 250000
  | 4 => 300000
  | _ => 500000

/-- A value taken to the nearest bound of a range. -/
def clampTo (lo hi n : Nat) : Nat := if n < lo then lo else if hi < n then hi else n

/-- Half-cell divider D (R25). -/
def halfCellDivider (rate : Nat) : Nat := 24000000 / (2 * rate)

/-- Track length T, with the rpm clamped to 250..400 (R26). -/
def trackLength (rate rpm : Nat) : Nat := rate * 15 / (2 * clampTo 250 400 rpm)

/-- Index width W = ceil(rate / 4000) (R27). -/
def indexWidth (rate : Nat) : Nat := (rate + 3999) / 4000

/-- The rotation parameters of an entry (R24 to R27). -/
def rotParams (e : Entry) : RotParams :=
  { rate := rateOf e.format, d := halfCellDivider (rateOf e.format), t := trackLength (rateOf e.format) e.rpm,
    w := indexWidth (rateOf e.format) }

/-- Encoding of an image's tracks (R24). -/
def Entry.enc (e : Entry) : Encoding := encodingOf e.format

/-- Track length T of an image (R26). -/
def Entry.trackLen (e : Entry) : Nat := trackLength (rateOf e.format) e.rpm

/-- Half-cell divider D of an image (R25). -/
def Entry.divider (e : Entry) : Nat := halfCellDivider (rateOf e.format)

/-- Blocks of a track slot: 2^k (R126). -/
def Entry.slotBlocks (e : Entry) : Nat := 2 ^ e.k

/-- Bytes of a track slot (R90, R109). -/
def Entry.slotBytes (e : Entry) : Nat := Config.blockBytes * 2 ^ e.k

/-- Track index t = image cylinder * heads + head (R126). -/
def Entry.trackIndex (e : Entry) (key : TrackKey) : Nat := key.cyl * e.heads + key.head

/-- First card block of a track's slot: base + 1 + t * 2^k (R126). -/
def Entry.slotStart (e : Entry) (key : TrackKey) : Nat := e.base + 1 + e.trackIndex key * 2 ^ e.k

/-- A track is scratch under SCRATCH, and under PERSIST in the guard range (R95, R135). -/
def Entry.scratchTrack (e : Entry) (cyl : Nat) : Bool :=
  match e.policy with
  | .scratch => true
  | .persist =>
    match e.guardSide with
    | .low => decide (cyl < e.guardCount)
    | .high => decide (e.cimg - e.guardCount ≤ cyl ∧ cyl < e.cimg)
  | .protect => false

/-! ### Catalogue header and configuration record -/

/-- The bytes of "GNCATLG1" (R120). -/
def catalogueSignature : List Byte := [0x47, 0x4E, 0x43, 0x41, 0x54, 0x4C, 0x47, 0x31]

/-- The bytes of "GNIMAGE1" (R125). -/
def imageSignature : List Byte := [0x47, 0x4E, 0x49, 0x4D, 0x41, 0x47, 0x45, 0x31]

/-- Entry count of a catalogue header, above 100 taken as 100 (R120, R180). -/
def catalogueCount (b : List Byte) : Nat := min (byteAt b 9).toNat 100

/-- Directory start block (R180). -/
def catalogueStart (b : List Byte) : Nat := leAt b 12 4

/-- Blocks of the directory: ceil(count / 8) (R120). -/
def directoryBlocks (b : List Byte) : Nat := (catalogueCount b + 7) / 8

/-- The checks of the header read: signature, version, and a directory that fits the card (R120). -/
def catalogueOk (capacity : Nat) (b : List Byte) : Bool :=
  (b.take 8 == catalogueSignature) && (byteAt b 8 == 1) &&
    (catalogueCount b == 0 ||
      (decide (1 ≤ catalogueStart b) && decide (catalogueStart b + directoryBlocks b ≤ capacity)))

/-- A stored resume slot: 100 to FF names no slot (R120). -/
def resumeSlot (b : Byte) : Option Nat := if b.toNat ≤ 99 then some b.toNat else none

/-- The byte of a resume slot: FF for none (R120). -/
def resumeByte (r : Option Nat) : Byte :=
  match r with
  | some n => BitVec.ofNat 8 n
  | none => 0xFF

/-- Block 0 as a resume write sends it: the catalogue copy with bytes 16 and 17 changed (R133, R180). -/
def resumeBlock (copy : List Byte) (ra rb : Option Nat) : List Byte :=
  ((fitTo Config.blockBytes copy).set 16 (resumeByte ra)).set 17 (resumeByte rb)

/-- Override entry `i` of a configuration record, as stored (R180). -/
def rawMark (c : List Byte) (i : Nat) : RawMark :=
  let f := fun j => byteAt c (32 + 12 * i + j)
  ⟨f 0, f 1, f 2, f 3, f 4, f 5, f 6, f 7⟩

/-- The two quotas, clamped in two steps (R123). -/
def clampQuotas (qa qb : Nat) : Nat × Nat :=
  let a := clampTo 2 6 qa
  let b := clampTo 2 6 qb
  (a, if 8 < a + b then 8 - a else b)

/-- The configuration record in bytes 128..255 of a catalogue header, clamped (R123, R180). -/
def clampConfig (block : List Byte) : WorkConfig :=
  let c := block.drop 128
  let byte := fun i => (byteAt c i).toNat
  let quotas := clampQuotas (byte 15) (byte 16)
  { enableB := byte 0 != 0, swapSel := byte 1 != 0, sharedMotor := byte 2 != 0, changeMode := byte 3 != 0,
    cphys := clampTo 40 84 (byte 4), autoDouble := byte 5 != 0, spinUp := clampTo 0 2000 (leAt c 6 2),
    change := clampTo 100 5000 (leAt c 8 2), settle := clampTo 1 50 (byte 10), linger := clampTo 0 30000 (leAt c 12 2),
    park := clampTo 1 60 (byte 14), quotaA := quotas.1, quotaB := quotas.2, prefetch := byte 17 != 0,
    overrides := (List.range (min (byte 18) 8)).map (rawMark c) }

/-- Encoding that an override entry names, if any (R39, R180). -/
def rawEncoding (b : Byte) : Option Encoding :=
  match b.toNat with
  | 0 => some .fm
  | 1 => some .mfm
  | _ => none

/-- Kind that an override entry names, if any (R39, R180). -/
def rawKind (b : Byte) : Option MarkKind :=
  match b.toNat with
  | 0 => some .index
  | 1 => some .ident
  | 2 => some .data
  | 3 => some .deleted
  | _ => none

/-- An override entry as placed in the mark table, or none where it is not placed (R39). -/
def placedMark (m : RawMark) : Option MarkEntry :=
  match rawEncoding m.enc, rawKind m.kind with
  | some enc, some kind =>
    some ⟨enc, kind, min m.count.toNat 3, m.preData, m.preClock, m.ident, m.idClock, m.mask⟩
  | _, _ => none

/-- Place `i` of the rebuilt mark table (R39). -/
def markPlace (overrides : List RawMark) (i : Fin 8) : MarkEntry :=
  match overrides[i.val]? with
  | some m =>
    match placedMark m with
    | some e => e
    | none => defaultMarks[i]
  | none => defaultMarks[i]

/-- The mark table that an installation rebuilds (R39). -/
def rebuildMarks (overrides : List RawMark) : Vector MarkEntry 8 :=
  #v[markPlace overrides 0, markPlace overrides 1, markPlace overrides 2, markPlace overrides 3, markPlace overrides 4,
     markPlace overrides 5, markPlace overrides 6, markPlace overrides 7]

/-! ### Directory -/

/-- A directory entry from its 64 bytes, clamped, with its validity on a card of `capacity` blocks (R122, R181). -/
def parseEntry (capacity : Nat) (e : List Byte) : Entry :=
  let byte := fun i => (byteAt e i).toNat
  let format := byte 1
  let heads := byte 2
  let cimg := byte 3
  let base := leAt e 4 4
  let k := byte 10
  let mfm := decide (encodingOf format = .mfm)
  { slot := byte 0, format := format, heads := heads, cimg := cimg, base := base, rpm := clampTo 250 400 (leAt e 8 2), k := k,
    sync := if byte 11 = 0 then (if mfm then 12 else 6) else min (byte 11) 16,
    fill := byteAt e 12,
    g2 := if byte 13 = 0 then (if mfm then 22 else 11) else byte 13,
    policy := match byte 14 with
      | 0 => .persist
      | 1 => .scratch
      | _ => .protect,
    guardCount := min (byte 15) cimg,
    guardSide := if byte 16 = 1 then .high else .low,
    valid := decide (3 ≤ k ∧ k ≤ 5) && decide (format ≤ 5) && decide (1 ≤ cimg ∧ cimg ≤ 84) && decide (1 ≤ heads ∧ heads ≤ 2) &&
      decide (base + 1 + cimg * heads * 2 ^ k ≤ capacity) }

/-- The 64 bytes of the entry at place `i` of the directory: byte 64 * (i mod 8) of block floor(i / 8) (R121). -/
def entryBytes (dir : List Byte) (i : Nat) : List Byte := (dir.drop (64 * i)).take 64

/-- One place of the directory into the table: skipped where its slot is above 99 or already there (R121). -/
def addEntry (table : List Entry) (e : Entry) : List Entry :=
  if 99 < e.slot ∨ table.any (fun x => x.slot == e.slot) then table else table ++ [e]

/-- The directory table (R121). -/
def buildTable (capacity count : Nat) (dir : List Byte) : List Entry :=
  (List.range count).foldl (fun table i => addEntry table (parseEntry capacity (entryBytes dir i))) []

/-- The entry of a slot, or none where the slot is absent (R121). -/
def lookupEntry (table : List Entry) (slot : Nat) : Option Entry := table.find? fun e => e.slot == slot

/-! ### Image header -/

/-- The header block matches the entry (R125). -/
def headerMatches (e : Entry) (b : List Byte) : Bool :=
  (b.take 8 == imageSignature) && ((byteAt b 8).toNat == e.slot) && ((byteAt b 9).toNat == e.cimg) &&
    ((byteAt b 10).toNat == e.heads)

/-- The present map of a header block: bytes 32..52, bit t in bit t mod 8 of byte 32 + floor(t / 8) (R181). -/
def headerMap (b : List Byte) : BitVec 168 := BitVec.ofNat 168 (leAt b 32 21)

/-- Bit t of a present map (R125). -/
def mapBit (m : BitVec 168) (t : Nat) : Bool := m.getLsbD t

/-- A present map with bit t set (R114). -/
def setMapBit (m : BitVec 168) (t : Nat) : BitVec 168 := m ||| ((1 : BitVec 168) <<< t)

/-- The image header block of a present-map write (R114, R181). -/
def imageHeaderBlock (e : Entry) (m : BitVec 168) : List Byte :=
  imageSignature ++ [BitVec.ofNat 8 e.slot, BitVec.ofNat 8 e.cimg, BitVec.ofNat 8 e.heads] ++ List.replicate 21 0 ++
    leBytes m.toNat 21 ++ List.replicate 459 0

/-! ### Track record strings -/

/-- One bit of a flag byte. -/
def flagBit (b : Bool) (i : Nat) : Byte := if b then (1 : Byte) <<< i else 0

/-- The 64 header bytes of a record string, with the stored sector count and truncated flag of the pass (R116, R182). -/
def headerBytes (r : TrackRecord) (count : Nat) (truncated : Bool) : List Byte :=
  [BitVec.ofNat 8 r.key.slot, BitVec.ofNat 8 r.key.cyl, BitVec.ofNat 8 r.key.head,
   flagBit r.blank 0 ||| flagBit truncated 1 ||| flagBit r.indexPos.isSome 2,
   (match r.enc with
    | .fm => 0
    | .mfm => 1),
   BitVec.ofNat 8 r.sync, r.fill, 0] ++ leBytes count 2 ++ leBytes (r.indexPos.getD 0) 2 ++ List.replicate 52 0

/-- The 16 descriptor bytes of a sector (R182). -/
def descriptorBytes (x : Sector) : List Byte :=
  leBytes x.pos 2 ++ [x.c, x.h, x.r, x.n, x.ident] ++
    (match x.data with
     | some part =>
       [part.ident] ++ leBytes part.d 2 ++
         [flagBit x.idFault 0 ||| flagBit true 1 ||| flagBit part.fault 2 ||| flagBit (decide (part.kind = .deleted)) 3]
     | none => [0, 0, 0, flagBit x.idFault 0]) ++ List.replicate 5 0

/-- Data bytes of a sector in the data area (R17). -/
def sectorData (x : Sector) : List Byte :=
  match x.data with
  | some part => fitTo (dataLen x.n) part.bytes
  | none => []

/-- The record string of a record laid out with the given sectors (R17, R115, R182). -/
def recordBytes (r : TrackRecord) (xs : List Sector) (truncated : Bool) : List Byte :=
  headerBytes r xs.length truncated ++ xs.flatMap descriptorBytes ++ xs.flatMap sectorData

/-- The sectors that a pass writes: all in whole form, the kept count in truncated form (R115). -/
def passSectors (truncForm : Bool) (slotBytes : Nat) (r : TrackRecord) : List Sector :=
  if truncForm then fitSectors slotBytes r.sectors else r.sectors

/-- Length of the string that a pass writes (R110, R115). -/
def passLength (truncForm : Bool) (slotBytes : Nat) (r : TrackRecord) : Nat := listLength (passSectors truncForm slotBytes r)

/-- Block `j` of the string that a pass writes, with 00 beyond its end (R110, R116). -/
def passBlock (truncForm : Bool) (slotBytes : Nat) (r : TrackRecord) (j : Nat) : List Byte :=
  blockOf (recordBytes r (passSectors truncForm slotBytes r) truncForm) j

/-- Stored sector count of a record string (R182). -/
def storedCount (s : List Byte) : Nat := leAt s 8 2

/-- The stored track key equals the demand's key (R19, R90). -/
def storedKeyIs (s : List Byte) (key : TrackKey) : Bool :=
  ((byteAt s 0).toNat == key.slot) && ((byteAt s 1).toNat == key.cyl) && ((byteAt s 2).toNat == key.head)

/-- Stored flag bit of the header (R182). -/
def storedFlag (s : List Byte) (i : Nat) : Bool := (byteAt s 3).getLsbD i

/-- Size code of stored descriptor `i`. -/
def storedSize (s : List Byte) (i : Nat) : Byte := byteAt s (64 + 16 * i + 5)

/-- Data-present bit of stored descriptor `i` (R182). -/
def storedPresent (s : List Byte) (i : Nat) : Bool := (byteAt s (64 + 16 * i + 10)).getLsbD 1

/-- Data length of stored descriptor `i`. -/
def storedDataLen (s : List Byte) (i : Nat) : Nat := if storedPresent s i then dataLen (storedSize s i) else 0

/-- Record length computed from the stored count and descriptors (R19). -/
def storedLength (s : List Byte) : Nat :=
  64 + 16 * storedCount s + ((List.range (storedCount s)).map (storedDataLen s)).sum

/-- The header checks of a fill: the key, and descriptors that fit the slot (R90 item 1). -/
def storedHeaderOk (e : Entry) (key : TrackKey) (s : List Byte) : Bool :=
  storedKeyIs s key && decide (64 + 16 * storedCount s ≤ e.slotBytes)

/-- The stored sync length, adjusted (R19). -/
def storedSync (s : List Byte) : Nat := clampTo 1 16 (byteAt s 5).toNat

/-- The stored sector at place `i`, adjusted; its data lie where the stored count places them (R7, R17, R19, R182). -/
def storedSector (e : Entry) (s : List Byte) (i : Nat) : Sector :=
  let o := 64 + 16 * i
  let flags := byteAt s (o + 10)
  let d := leAt s (o + 8) 2
  let at_ := 64 + 16 * storedCount s + ((List.range i).map (storedDataLen s)).sum
  { pos := leAt s o 2, c := byteAt s (o + 2), h := byteAt s (o + 3), r := byteAt s (o + 4), n := byteAt s (o + 5),
    ident := byteAt s (o + 6), idFault := flags.getLsbD 0,
    data :=
      if storedPresent s i then
        some { d := if d < idLength e.enc (storedSync s) then defaultOffset e.enc (storedSync s) e.g2 else d,
               kind := if flags.getLsbD 3 then .deleted else .data, ident := byteAt s (o + 7), fault := flags.getLsbD 2,
               bytes := fitTo (storedDataLen s i) (s.drop at_) }
      else none,
    overflow := false, shifted := false }

/-- The record loaded from a slot whose stored blank flag is set (R19). -/
def loadBlank (e : Entry) (key : TrackKey) (s : List Byte) : TrackRecord :=
  { key := key, blank := true, enc := e.enc, sync := storedSync s, fill := byteAt s 6, indexPos := none,
    truncated := storedFlag s 1, sectors := [] }

/-- The record loaded from a slot, before the layout check (R19). -/
def loadRaw (e : Entry) (key : TrackKey) (s : List Byte) : TrackRecord :=
  { key := key, blank := false, enc := e.enc, sync := storedSync s, fill := byteAt s 6,
    indexPos := if storedFlag s 2 then some (leAt s 10 2) else none, truncated := storedFlag s 1,
    sectors := (List.range (min (storedCount s) Config.maxSectors)).map (storedSector e s) }

/-- The record that a body transaction's end makes resident: none where the length check fails (R19, R90 item 2). -/
def loadRecord (e : Entry) (key : TrackKey) (s : List Byte) : Option TrackRecord :=
  if e.slotBytes < storedLength s then none else some (layoutCheck e.trackLen (loadRaw e key s))

end Sys2Proof.Machine
end

