-- ==== Sys2Proof/Machine/Ops.lean ====
section
/-! DEFINITION. Named reads and writes of the state that every block uses: units, lines, keys and pins, the card's availability, the
panel's fault code, the write-back queue, the arbiter's queues, and the freeing of a line. -/

namespace Sys2Proof.Machine

/-! ### Units and lines -/

/-- The store of a unit. -/
def Store.unit (s : Store) : Drive → UnitStore
  | .a => s.a
  | .b => s.b

/-- Replace the store of a unit. -/
def Store.setUnit (s : Store) (u : Drive) (x : UnitStore) : Store :=
  match u with
  | .a => { s with a := x }
  | .b => { s with b := x }

/-- Change the store of a unit. -/
def Store.modUnit (s : Store) (u : Drive) (f : UnitStore → UnitStore) : Store := s.setUnit u (f (s.unit u))

/-- Change the mount context of a unit. -/
def Store.modMount (s : Store) (u : Drive) (f : Mount → Mount) : Store :=
  s.modUnit u fun x => { x with mount := f x.mount }

/-- The mechanism of a unit. -/
def Mech.unit (m : Mech) : Drive → UnitMech
  | .a => m.a
  | .b => m.b

/-- Replace the mechanism of a unit. -/
def Mech.setUnit (m : Mech) (u : Drive) (x : UnitMech) : Mech :=
  match u with
  | .a => { m with a := x }
  | .b => { m with b := x }

/-- Change the rotation timer of a unit. -/
def Mech.modRot (m : Mech) (u : Drive) (f : Rotation → Rotation) : Mech :=
  m.setUnit u { m.unit u with rot := f (m.unit u).rot }

/-- Change the line-interface fields of a unit. -/
def Mech.modLines (m : Mech) (u : Drive) (f : UnitLines → UnitLines) : Mech :=
  m.setUnit u { m.unit u with lines := f (m.unit u).lines }

/-- A cache line by its number. -/
def Store.line (s : Store) (l : Fin 8) : Line := s.lines[l]

/-- Replace a cache line. -/
def Store.setLine (s : Store) (l : Fin 8) (x : Line) : Store := { s with lines := s.lines.set l x }

/-- Change a cache line. -/
def Store.modLine (s : Store) (l : Fin 8) (f : Line → Line) : Store := s.setLine l (f (s.line l))

/-- The line numbers, ascending. -/
def lineNumbers : List (Fin 8) := [0, 1, 2, 3, 4, 5, 6, 7]

/-- The units, in the order in which an event that reaches both acts on them (log 10). -/
def drives : List Drive := [.a, .b]

/-- Resident: CLEAN, DIRTY or WRITING (R80). -/
def LineState.resident : LineState → Bool
  | .clean => true
  | .dirty => true
  | .writing => true
  | _ => false

/-- The line outside FREE that holds a key (R81). -/
def Store.lineOf (s : Store) (key : TrackKey) : Option (Fin 8) :=
  lineNumbers.find? fun l => decide ((s.line l).state ≠ .free) && (s.line l).key == some key

/-- The resident line that holds a key (R47, R66). -/
def Store.residentOf (s : Store) (key : TrackKey) : Option (Fin 8) :=
  match s.lineOf key with
  | some l => if (s.line l).state.resident then some l else none
  | none => none

/-- Lines charged to a unit (R82). -/
def Store.ownedLines (s : Store) (u : Drive) : List (Fin 8) :=
  lineNumbers.filter fun l => decide ((s.line l).owner = some u)

/-- The lines of a unit in a given state, ascending. -/
def Store.linesIn (s : Store) (u : Drive) (st : LineState) : List (Fin 8) :=
  lineNumbers.filter fun l => decide ((s.line l).owner = some u ∧ (s.line l).state = st)

/-- Quota of a unit (R82). -/
def Store.quota (s : Store) : Drive → Nat
  | .a => s.images.config.quotaA
  | .b => s.images.config.quotaB

/-- A unit exists for the cable and the panel (R156). -/
def WorkConfig.enabled (c : WorkConfig) : Drive → Bool
  | .a => true
  | .b => c.enableB

/-! ### Mount contexts -/

/-- Mounted: MOUNTED or UNMOUNTING (R127). -/
def MountState.isMounted : MountState → Bool
  | .mounted => true
  | .unmounting => true
  | _ => false

/-- The unit is mounted (R127). -/
def Store.mounted (s : Store) (u : Drive) : Bool := (s.unit u).mount.state.isMounted

/-- The image cylinder under a head position (R163). -/
def Mount.imageCyl (m : Mount) (head : Nat) : Option Nat :=
  if m.state.isMounted then
    match m.entry with
    | some e => if head % m.ratio = 0 ∧ head / m.ratio < e.cimg then some (head / m.ratio) else none
    | none => none
  else none

/-- Number of a side. -/
def sideNumber (side : Bool) : Nat := if side then 1 else 0

/-- The track under a head position and side, where it lies within the image (R47, R71, R163). -/
def Mount.trackAt (m : Mount) (head : Nat) (side : Bool) : Option TrackKey :=
  match m.slot, m.entry, m.imageCyl head with
  | some slot, some e, some c => if sideNumber side < e.heads then some ⟨slot, c, sideNumber side⟩ else none
  | _, _, _ => none

/-- The cylinder keys that an arrival sets (R84), side 0 first. -/
def Mount.cylinderKeys (m : Mount) (head : Nat) : List TrackKey :=
  (m.trackAt head false).toList ++ (m.trackAt head true).toList

/-! ### Pin sets -/

/-- The claim in the staging buffer, PARSING or WAITING (R70). -/
def Staging.claim : Staging → Option Claim
  | .empty => none
  | .parsing c => some c
  | .waiting c => some c

/-- The key of a claim that a unit owns (R84). -/
def Store.claimKey (s : Store) (u : Drive) : List TrackKey :=
  match s.staging.claim with
  | some c => if c.owner = u then [c.key] else []
  | none => []

/-- The pin set: cylinder keys and claim key (R84). -/
def Store.pinSet (s : Store) (u : Drive) : List TrackKey :=
  (s.unit u).cylKeys ++ (s.claimKey u).filter fun k => !((s.unit u).cylKeys.contains k)

/-- A line is pinned while its key is in its owner's pin set (R79). -/
def Store.pinned (s : Store) (l : Fin 8) : Bool :=
  match (s.line l).owner, (s.line l).key with
  | some u, some k => (s.pinSet u).contains k
  | _, _ => false

/-! ### Card -/

/-- The card is available: IDLE, BUSY or PARKED (R138). -/
def Link.available (k : Link) : Bool :=
  match k.state with
  | .idle => true
  | .busy => true
  | .parked => true
  | _ => false

/-- The card is lost: ABSENT, INITIALIZING or FAULT (R138). -/
def Store.cardLost (s : Store) : Bool := !s.link.available

/-- The card in the socket is locked; with no lock switch sampled it counts as unlocked (R167). -/
def Store.locked (s : Store) : Bool := s.link.lock == some true

/-- A catalogue has been read, found valid and installed (R120, R133). -/
def Store.catalogueValid (s : Store) : Bool := s.images.catalogue.isSome && !s.images.reading

/-- A wake: a PARKED link goes to IDLE (R152). -/
def Store.wake (s : Store) : Store :=
  if s.link.state = .parked then { s with link := { s.link with state := .idle } } else s

/-- A grant to WRITE-BACK is in force: a transaction of the pass in progress (R148, R149). -/
def Store.wbGrant (s : Store) : Bool :=
  match s.link.current with
  | some (.write t) => decide (t.job ≠ .resume) && s.wb.current.isSome
  | _ => false

/-- The write-back controller's request waits: a queued line or an unfinished current line, and no grant in force (R109, R147). -/
def Store.wbRequest (s : Store) : Bool := (s.wb.current.isSome || !s.wb.queue.isEmpty) && !s.wbGrant

/-- The write-back controller is idle (R102). -/
def WriteBack.idle (w : WriteBack) : Bool := w.queue.isEmpty && w.current.isNone

/-! ### Panel -/

/-- A block gives the panel a fault code (R178). -/
def Store.giveCode (s : Store) (c : FaultCode) : Store :=
  { s with panel := { s.panel with code := some c, faultOn := true } }

/-- The candidate becomes none and its timer idle (R172, R173). -/
def Store.clearCandidate (s : Store) : Store :=
  { s with panel := { s.panel with candidate := none, candTimer := none } }

/-! ### Write-back queue -/

/-- Add a DIRTY line at the tail, once (R103). -/
def Store.queueTail (s : Store) (l : Fin 8) : Store :=
  if (s.line l).state = .dirty ∧ l ∉ s.wb.queue then { s with wb := { s.wb with queue := s.wb.queue ++ [l] } } else s

/-- Add a DIRTY line at the head, once (R106). With both units UNMOUNTING this is the very head for either unit's line, ahead of the
lines of the unit that entered UNMOUNTING later (DESIGN CHOICE, log 43). -/
def Store.queueHead (s : Store) (l : Fin 8) : Store :=
  if (s.line l).state = .dirty ∧ l ∉ s.wb.queue then { s with wb := { s.wb with queue := l :: s.wb.queue } } else s

/-- The owner of the line is UNMOUNTING. -/
def Store.ownerUnmounting (s : Store) (l : Fin 8) : Bool :=
  match (s.line l).owner with
  | some u => decide ((s.unit u).mount.state = .unmounting)
  | none => false

/-- A line is handed to the write-back controller: at the head for an UNMOUNTING unit, otherwise at the tail (R103, R104, R106). -/
def Store.handOver (s : Store) (l : Fin 8) : Store := if s.ownerUnmounting l then s.queueHead l else s.queueTail l

/-- Hand over every DIRTY line of the unit that is not pinned, ascending (R86, R104). -/
def Store.handUnpinned (s : Store) (u : Drive) : Store :=
  (s.linesIn u .dirty).foldl (fun s l => if s.pinned l then s else s.handOver l) s

/-- Queue every DIRTY line of the unit, ascending, at the tail (R105). -/
def Store.queueUnit (s : Store) (u : Drive) : Store := (s.linesIn u .dirty).foldl Store.queueTail s

/-- What follows when a line has become DIRTY: a parked link wakes (R152); the line of an UNMOUNTING unit goes to the head of the
queue (R106), and while a drain is pending, or while the line is unpinned, it is handed over (R86, R108). -/
def Store.becameDirty (s : Store) (l : Fin 8) : Store :=
  let s := s.wake
  if s.ownerUnmounting l || s.wb.drain || !s.pinned l then s.handOver l else s

/-- The linger timer of a unit expires: every DIRTY line of the unit that is not queued joins the tail (R105); the controller's request
wakes a parked link (R152). -/
def Store.lingerOut (s : Store) (u : Drive) : Store :=
  let s := (s.modUnit u fun x => { x with linger := none }).queueUnit u
  if s.wbRequest then s.wake else s

/-- The linger timer of a unit is restarted; with a linger time of 0 it expires at the same event (R105). -/
def Store.restartLinger (s : Store) (u : Drive) : Store :=
  if s.images.config.linger = 0 then s.lingerOut u
  else s.modUnit u fun x => { x with linger := some (Config.ms s.images.config.linger) }

/-! ### Recency order -/

/-- A line moves to the most recent end of its owner's order (R83). -/
def Store.touch (s : Store) (u : Drive) (l : Fin 8) : Store :=
  s.modUnit u fun x => { x with recency := x.recency.filter (fun y => decide (y ≠ l)) ++ [l] }

/-- A line joins its owner's order at the least recent end (R83, R93). -/
def Store.touchLeast (s : Store) (u : Drive) (l : Fin 8) : Store :=
  s.modUnit u fun x => { x with recency := l :: x.recency.filter (fun y => decide (y ≠ l)) }

/-- A presentation of a line (R50, R83). -/
def Store.present (s : Store) (l : Fin 8) : Store :=
  match (s.line l).owner with
  | some u => s.touch u l
  | none => s

/-! ### Arbiter queues -/

/-- Insert a request by age, oldest first (R147). -/
def insertReq (r : FillReq) : List FillReq → List FillReq
  | [] => [r]
  | x :: xs => if r.age < x.age then r :: x :: xs else x :: insertReq r xs

/-- A fill request reaches the arbiter: it may wake a parked link and, under DEMAND, sets the suspend request during a WRITE-BACK
grant (R147, R149, R152). -/
def Store.askFill (s : Store) (cls : DemandClass) (r : FillReq) : Store :=
  let s := s.wake
  match cls with
  | .demand =>
    { s with link := { s.link with demandQ := insertReq r s.link.demandQ, suspendReq := s.link.suspendReq || s.wbGrant } }
  | .prefetching => { s with link := { s.link with prefetchQ := insertReq r s.link.prefetchQ } }

/-- A CATALOGUE request reaches the arbiter (R147). -/
def Store.askCat (s : Store) (r : CatReq) : Store :=
  let s := s.wake
  { s with link := { s.link with catQ := s.link.catQ ++ [r] } }

/-- The waiting requests of a line are withdrawn; the suspend request is cleared when no DEMAND request waits any more (R147,
R149). -/
def Store.withdraw (s : Store) (l : Fin 8) : Store :=
  let d := s.link.demandQ.filter fun r => decide (r.line ≠ l)
  { s with link := { s.link with
      demandQ := d, prefetchQ := s.link.prefetchQ.filter (fun r => decide (r.line ≠ l)),
      suspendReq := s.link.suspendReq && !d.isEmpty } }

/-- A resume write is asked for: if the card is available and unlocked with a valid catalogue copy; at most one waits, and one more
follows a write in transfer (R133). -/
def Store.askResume (s : Store) : Store :=
  if s.link.available && !s.locked && s.catalogueValid then
    match s.link.current with
    | some (.write t) =>
      if t.job = .resume then { s with images := { s.images with resumeAgain := true } }
      else if s.link.catQ.contains .resume then s else s.askCat .resume
    | _ => if s.link.catQ.contains .resume then s else s.askCat .resume
  else s

/-! ### Lines leave residence -/

/-- The line is no longer resident under the span's target: the span edits it no more (R69). -/
def Store.dropTarget (s : Store) (l : Fin 8) : Store :=
  if s.decoder.ctx.targetLine = some l then
    { s with decoder := { s.decoder with ctx := { s.decoder.ctx with target := none, targetLine := none } } }
  else s

/-- The line leaves its owner's recency order (R83). -/
def Store.leaveOrder (s : Store) (l : Fin 8) : Store :=
  match (s.line l).owner with
  | some u => s.modUnit u fun x => { x with recency := x.recency.filter fun y => decide (y ≠ l) }
  | none => s

/-- A line becomes FREE: it loses owner, key, record, flags and its place in the order (R97). -/
def Store.freeLine (s : Store) (l : Fin 8) : Store := ((s.leaveOrder l).dropTarget l).setLine l Line.free

/-- Free several lines. -/
def Store.freeLines (s : Store) (ls : List (Fin 8)) : Store := ls.foldl Store.freeLine s

/-- The claim ends: the buffer is EMPTY and the claim's key leaves the pin set (R75, R84). -/
def Store.endClaim (s : Store) : Store :=
  match s.staging.claim with
  | some c => { s with staging := .empty }.handUnpinned c.owner
  | none => s

end Sys2Proof.Machine
end

