-- ==== Sys2Proof/Machine/Edits.lean ====
section
/-! DEFINITION. Edits of cached records (R95) and the merging of format claims (R75, R76). -/

namespace Sys2Proof.Machine

/-- The entry copy of the image that a line's owner has mounted, or keeps for its held lines. -/
def Store.lineEntry (s : Store) (l : Fin 8) : Option Entry :=
  match (s.line l).owner with
  | some u => (s.unit u).mount.entry
  | none => none

/-- The line's track is scratch (R95, R135). -/
def Store.lineScratch (s : Store) (l : Fin 8) : Bool :=
  match s.lineEntry l, (s.line l).key with
  | some e, some k => e.scratchTrack k.cyl
  | _, _ => false

/-- An edit that wrote the given blocks of a resident line reaches the cache (R18, R95). An edit that wrote nothing adds nothing. -/
def Store.edit (s : Store) (l : Fin 8) (blocks : List Nat) : Store :=
  if blocks.isEmpty then s
  else
    match (s.line l).state with
    | .clean =>
      if s.lineScratch l then s.modLine l fun x => { x with scratch := true }
      else (s.modLine l fun x => { x with state := .dirty, dirty := insertNats blocks x.dirty }).becameDirty l
    | .dirty => s.modLine l fun x => { x with dirty := insertNats blocks x.dirty }
    | .writing => s.modLine l fun x => { x with dirty := insertNats blocks x.dirty }
    | _ => s

/-- Change the record of a line. -/
def Store.modRecord (s : Store) (l : Fin 8) (f : TrackRecord → TrackRecord) : Store :=
  s.modLine l fun x => { x with record := x.record.map f }

/-- A merged record goes into a FAULT line: DIRTY with every block, or CLEAN with the scratch-modified flag (R76, R95). -/
def Store.fillFaulted (s : Store) (l : Fin 8) (r : TrackRecord) : Store :=
  if s.lineScratch l then s.modLine l fun x => { x with state := .clean, record := some r, dirty := [], scratch := true }
  else (s.modLine l fun x =>
    { x with state := .dirty, record := some r, dirty := allBlocks (recordLength r) }).becameDirty l

/-- The merge of a claim into the line that holds its key, before the claim ends (R75, R76): into a resident record, or into a FAULT
line with the header a blank fill would set and an empty old list. -/
def Store.mergeInto (s : Store) (l : Fin 8) (c : Claim) : Store :=
  match s.lineEntry l with
  | none => s
  | some e =>
    let merged := mergeRecord e.trackLen c.a (c.b.getD c.a) c.indexM c.sectors
    match (s.line l).state with
    | .fault => s.fillFaulted l (merged (blankRecord c.key e.enc e.sync e.fill))
    | _ =>
      match (s.line l).record with
      | some r => (s.modRecord l fun _ => merged r).edit l (allBlocks (recordLength (merged r)))
      | none => s

/-- A claim is merged and ends (R75). -/
def Store.mergeClaim (s : Store) (l : Fin 8) (c : Claim) : Store := (s.mergeInto l c).endClaim

/-- At a fill's end a WAITING claim for the line's key is merged, and the owner's linger timer restarts (R75, R91, R105). -/
def Store.mergeWaiting (s : Store) (l : Fin 8) : Store :=
  match s.staging with
  | .waiting c => if (s.line l).key = some c.key then (s.mergeClaim l c).restartLinger c.owner else s
  | _ => s

end Sys2Proof.Machine
end

