-- ==== Sys2Proof/Machine/Mounts.lean ====
section
/-! DEFINITION. Mount requests and the states of a mount context that need no card transfer (R128 to R131, R134, R137). -/

namespace Sys2Proof.Machine

/-- The unit's DIRTY lines go to the head of the queue in ascending order; the others keep their order behind them (R106). -/
def Store.moveToHead (s : Store) (u : Drive) : Store :=
  let mine := s.linesIn u .dirty
  { s with wb := { s.wb with queue := mine ++ s.wb.queue.filter fun l => !mine.contains l } }

/-- The unit owns a HELD line. -/
def Store.ownsHeld (s : Store) (u : Drive) : Bool := !(s.linesIn u .held).isEmpty

/-- The unit owns no line. -/
def Store.ownsNone (s : Store) (u : Drive) : Bool := (s.ownedLines u).isEmpty

/-- Steps 4 and 5 of R130: the target, and the change interval; slot, entry copy and present map are cleared unless the unit owns a
HELD line. -/
def Store.enterInterval (s : Store) (u : Drive) (target : Option MountReq) : Store :=
  let keep := s.ownsHeld u
  s.modMount u fun m =>
    { state := .changingInterval, slot := if keep then m.slot else none, entry := if keep then m.entry else none,
      map := if keep then m.map else none, ratio := 1, target := target, pending := none,
      timer := some (Config.ms s.images.config.change) }

/-- The unit becomes EMPTY: slot, entry copy, present map and target are cleared; a pending request is kept (R127, R131, R134). -/
def Store.enterEmpty (s : Store) (u : Drive) : Store :=
  s.modMount u fun m => { Mount.reset with pending := m.pending }

/-- A mount request reaches a mount context (R128). -/
def Store.request (s : Store) (u : Drive) (r : MountReq) : Store :=
  match (s.unit u).mount.state with
  | .mounted => (s.modMount u fun m => { m with state := .unmounting, pending := some r }).moveToHead u
  | .unmounting => s.modMount u fun m => { m with pending := some r }
  | .empty => s.enterInterval u (some r)
  | .changingInterval => s.modMount u fun m => { m with target := some r }
  | .changingLookup => s.modMount u fun m => { m with pending := some r }
  | .held => s.modMount u fun m => { m with pending := some r }

/-- A request that waits is acted on as one that arrives now (R128, R131). -/
def Store.servePending (s : Store) (u : Drive) : Store :=
  match (s.unit u).mount.pending with
  | some r => (s.modMount u fun m => { m with pending := none }).request u r
  | none => s

/-- An enabled EMPTY unit is offered a mount on a usable card with a valid catalogue: its pending request, otherwise its resume slot
(R136, R137). R136 speaks of the resume slot alone at start-up, and R137 puts a pending request first at the installations that are not
part of start-up: the model puts a request that waits first at start-up too (DESIGN CHOICE, log 46). -/
def Store.offerMount (s : Store) (u : Drive) : Store :=
  if s.images.config.enabled u && decide ((s.unit u).mount.state = .empty) && s.link.available && s.catalogueValid then
    match (s.unit u).mount.pending with
    | some r => s.request u r
    | none =>
      match (s.unit u).resume with
      | some n => s.request u (.slot n)
      | none => s
  else s

/-- A HELD unit that owns no line becomes EMPTY and is offered a mount (R134). -/
def Store.leaveHeld (s : Store) (u : Drive) : Store :=
  if decide ((s.unit u).mount.state = .held) && s.ownsNone u then (s.enterEmpty u).offerMount u else s

/-- HELD if the unit owns any line, otherwise EMPTY (R131, R134). -/
def Store.heldOrEmpty (s : Store) (u : Drive) : Store :=
  if s.ownsNone u then s.enterEmpty u
  else s.modMount u fun m => { m with state := .held, ratio := 1, target := none, timer := none }

/-- A lookup that fails leaves the unit EMPTY, and then a request that arrived in stage LOOKUP is acted on (R131). -/
def Store.lookupFails (s : Store) (u : Drive) : Store := (s.enterEmpty u).servePending u

/-- A lookup fails with E3 while the unit is in stage LOOKUP (R125, R131). -/
def Store.badHeader (s : Store) (u : Drive) : Store :=
  if (s.unit u).mount.state = .changingLookup then (s.giveCode .e3).lookupFails u else s

/-- The catalogue is found invalid: E2, an empty table, no catalogue copy, no resume slots; the working configuration stays (R120). -/
def Store.catalogueInvalid (s : Store) : Store :=
  let s := { s with images := { s.images with catalogue := none, reading := false, table := [] } }
  let s := s.modUnit .a fun x => { x with resume := none }
  let s := s.modUnit .b fun x => { x with resume := none }
  s.clearCandidate.giveCode .e2

end Sys2Proof.Machine
end

