-- ==== Sys2Proof/Machine/Fills.lean ====
section
/-! DEFINITION. Demands, lines taken for them, fills, arrivals and prefetch (R85 to R94, R97, R98). -/

namespace Sys2Proof.Machine

/-! ### Demand lists -/

/-- A demand of the unit for a key exists (R81, R85). -/
def Store.demanded (s : Store) (u : Drive) (key : TrackKey) : Bool := (s.unit u).demands.any fun d => d.key == key

/-- Change the demands of a unit. -/
def Store.modDemands (s : Store) (u : Drive) (f : List Demand → List Demand) : Store :=
  s.modUnit u fun x => { x with demands := f x.demands }

/-- The demand whose fill a line carries leaves its unit's list (R91). -/
def Store.dropDemand (s : Store) (u : Drive) (l : Fin 8) : Store :=
  s.modDemands u fun ds => ds.filter fun d => decide (d.line ≠ some l)

/-- The demand of the given age gets a line and a stage. -/
def Store.stageDemand (s : Store) (u : Drive) (age : Nat) (l : Fin 8) (st : DemandStage) : Store :=
  s.modDemands u fun ds => ds.map fun d => if d.age = age then { d with line := some l, stage := st } else d

/-- A new demand joins the unit's list with the next age (R87, R147). -/
def Store.addDemand (s : Store) (u : Drive) (d : Demand) : Store :=
  { s.modDemands u (fun ds => ds ++ [{ d with age := s.nextAge }]) with nextAge := s.nextAge + 1 }

/-! ### Lines for demands -/

/-- The lowest-numbered FREE line (R87 item 1). -/
def Store.freeLineNumber (s : Store) : Option (Fin 8) := lineNumbers.find? fun l => decide ((s.line l).state = .free)

/-- A FREE line for a unit below its quota (R82, R87 item 1). -/
def Store.takeFree (s : Store) (u : Drive) : Option (Fin 8) :=
  if (s.ownedLines u).length < s.quota u then s.freeLineNumber else none

/-- The unit's unpinned CLEAN and FAULT lines without the abandoned mark, least recently presented first (R87 item 2). -/
def Store.reusable (s : Store) (u : Drive) : List (Fin 8) :=
  (s.unit u).recency.filter fun l =>
    decide ((s.line l).owner = some u ∧ ((s.line l).state = .clean ∨ (s.line l).state = .fault)) &&
      !(s.line l).abandoned && !s.pinned l

/-- The line a demand reuses: one without the scratch-modified flag if there is any (R87 item 2, R96). -/
def Store.reuseLine (s : Store) (u : Drive) : Option (Fin 8) :=
  match (s.reusable u).find? fun l => !(s.line l).scratch with
  | some l => some l
  | none => (s.reusable u).head?

/-- The line that a DEMAND-class demand takes (R87). -/
def Store.chooseLine (s : Store) (u : Drive) : Option (Fin 8) :=
  match s.takeFree u with
  | some l => some l
  | none => s.reuseLine u

/-- A line that is being filled for a unit. -/
def Line.fillingFor (u : Drive) (key : TrackKey) : Line := ⟨.filling, some u, some key, none, [], false, false, []⟩

/-- A line is taken, or taken again, for a key; what it held is discarded (R87). -/
def Store.attach (s : Store) (u : Drive) (l : Fin 8) (key : TrackKey) : Store :=
  ((s.leaveOrder l).dropTarget l).setLine l (Line.fillingFor u key)

/-! ### Fills -/

/-- A demand has obtained its line: with the present-map bit clear the line is CLEAN at once with a blank record and the demand ends;
with the bit set the line is FILLING and the header transaction is asked for (R89, R90). A request that would reach the link while the
card is lost fails at once (R147): the line is FAULT with E5. -/
def Store.startFill (s : Store) (u : Drive) (l : Fin 8) (age : Nat) (cls : DemandClass) (key : TrackKey) : Store :=
  match (s.unit u).mount.entry, (s.unit u).mount.map with
  | some e, some m =>
    if mapBit m (e.trackIndex key) then
      if s.cardLost then
        ((s.modLine l fun x => { x with state := .fault, record := none }).dropDemand u l).giveCode .e5
      else (s.stageDemand u age l .queued).askFill cls ⟨l, false, age, e.slotStart key, 1⟩
    else
      ((s.modLine l fun x => { x with state := .clean, record := some (blankRecord key e.enc e.sync e.fill) }).dropDemand
        u l).mergeWaiting l
  | _, _ => s

/-- One waiting demand is examined: it takes a line by R87 or stays waiting (R88). A line outside FREE that held its key already would
leave it waiting, so that a key never has two lines (R81). -/
def Store.serveOne (s : Store) (u : Drive) (d : Demand) : Store :=
  match s.lineOf d.key, s.chooseLine u with
  | none, some l =>
    (((s.attach u l d.key).touch u l).stageDemand u d.age l .queued).startFill u l d.age d.cls d.key
  | _, _ => s

/-- The unit's WAITING demands. -/
def Store.waitingDemands (s : Store) (u : Drive) : List Demand :=
  (s.unit u).demands.filter fun d => decide (d.stage = .waiting)

/-- The unit's WAITING demands are examined, oldest first (R88). -/
def Store.serveWaiting (s : Store) (u : Drive) : Store :=
  (s.waitingDemands u).foldl (fun s d => s.serveOne u d) s

/-- The cache issues a demand for a key that no line holds and no demand names, while the card is available; older waiting demands
are served first (R81, R85, R87, R88, R99). -/
def Store.issueDemand (s : Store) (u : Drive) (key : TrackKey) : Store :=
  if s.cardLost || (s.lineOf key).isSome || s.demanded u key then s
  else (s.addDemand u ⟨key, .demand, 0, none, .waiting⟩).serveWaiting u

/-- A line that held `key` has become FREE: a demand is issued for the key if it is in the unit's pin set (R87). -/
def Store.reissue (s : Store) (u : Drive) (key : TrackKey) : Store :=
  if (s.pinSet u).contains key then s.issueDemand u key else s

/-- A FAULT line under a pinned key is filled again: a demand with the line already attached (R92). -/
def Store.refill (s : Store) (u : Drive) (l : Fin 8) (key : TrackKey) : Store :=
  let age := s.nextAge
  ((s.addDemand u ⟨key, .demand, 0, some l, .queued⟩).modLine l
    fun x => { x with state := .filling, record := none, arrived := [] }).startFill u l age .demand key

/-! ### Prefetch -/

/-- The cylinder next to the settled one in the prefetch direction, where the image has it (R93). -/
def Store.prefetchTarget (s : Store) (u : Drive) : Option Nat :=
  match (s.unit u).cylKeys, (s.unit u).mount.entry with
  | k :: _, some e =>
    if (s.unit u).prefetchUp then (if k.cyl + 1 < e.cimg then some (k.cyl + 1) else none)
    else (if 1 ≤ k.cyl ∧ k.cyl - 1 < e.cimg then some (k.cyl - 1) else none)
  | _, _ => none

/-- One prefetch key: skipped where a line holds it, a demand names it, or no FREE line is to be had (R93). -/
def Store.prefetchKey (s : Store) (u : Drive) (key : TrackKey) : Store :=
  if (s.lineOf key).isSome || s.demanded u key then s
  else
    match s.takeFree u with
    | some l =>
      let age := s.nextAge
      (((s.addDemand u ⟨key, .prefetching, 0, some l, .queued⟩).attach u l key).touchLeast u l).startFill u l age .prefetching key
    | none => s

/-- The conditions under which prefetch goes ahead (R93). -/
def Store.prefetchReady (s : Store) (u : Drive) : Bool :=
  s.images.config.prefetch && !s.cardLost && !(s.unit u).cylKeys.isEmpty &&
    (s.pinSet u).all (fun k => (s.residentOf k).isSome) && !(s.unit u).prefetchDone

/-- Prefetch is evaluated for a unit (R93). Where the conditions hold and the target lies below 0 or at or beyond Cimg, there is no
prefetch, and the rule does not say whether prefetch has then gone ahead for the arrival: the model says it has not, so a later fill end
evaluates again (DESIGN CHOICE, log 42). -/
def Store.evalPrefetch (s : Store) (u : Drive) : Store :=
  if s.prefetchReady u then
    match (s.unit u).mount.slot, (s.unit u).mount.entry, s.prefetchTarget u with
    | some slot, some e, some c =>
      (List.range e.heads).foldl (fun s h => s.prefetchKey u ⟨slot, c, h⟩)
        (s.modUnit u fun x => { x with prefetchDone := true })
    | _, _, _ => s
  else s

/-! ### Arrivals -/

/-- A demand is cancelled: a QUEUED one returns its FILLING line to FREE and withdraws its request (R85, R87, R97, R147). -/
def Store.cancelDemand (s : Store) (u : Drive) (d : Demand) : Store :=
  let s := s.modDemands u fun ds => ds.filter fun x => decide (x.age ≠ d.age)
  match d.line with
  | some l => if (s.line l).state = .filling then (s.withdraw l).freeLine l else s
  | none => s

/-- The unit's demands that have not started and satisfy a test (R87). -/
def Store.notStarted (s : Store) (u : Drive) (test : Demand → Bool) : List Demand :=
  (s.unit u).demands.filter fun d => decide (d.stage ≠ .inFlight) && test d

/-- The unit's demands that have not started and satisfy a test are cancelled (R87). -/
def Store.cancelWhere (s : Store) (u : Drive) (test : Demand → Bool) : Store :=
  (s.notStarted u test).foldl (fun s d => s.cancelDemand u d) s

/-- Step 4 of R85 for one key of the new pin set. -/
def Store.needKey (s : Store) (u : Drive) (key : TrackKey) : Store :=
  match s.lineOf key with
  | none => s.issueDemand u key
  | some l =>
    if (s.line l).state = .fault ∧ s.demanded u key = false ∧ (s.line l).owner = some u then s.refill u l key else s

/-- The keys of the pin set in the order of step 4: current side, other side, then a claim's key (R85, log 35). -/
def Store.needOrder (s : Store) (u : Drive) (side : Bool) : List TrackKey :=
  ((s.unit u).cylKeys.filter fun k => k.head == sideNumber side) ++
    ((s.unit u).cylKeys.filter fun k => k.head != sideNumber side) ++
    ((s.claimKey u).filter fun k => !((s.unit u).cylKeys.contains k))

/-- An arrival of a unit with the head where it stands (R85). -/
def Store.arrive (s : Store) (u : Drive) (head : Nat) (side : Bool) : Store :=
  let keys := (s.unit u).mount.cylinderKeys head
  let claim := s.claimKey u
  let s := s.cancelWhere u fun d => !(keys.contains d.key || claim.contains d.key)
  let s := s.modUnit u fun x => { x with cylKeys := keys, prefetchDone := false }
  let s := s.handUnpinned u
  if s.cardLost then s
  else ((s.needOrder u side).foldl (fun s k => s.needKey u k) s).evalPrefetch u

/-! ### Fill ends -/

/-- The unit to which a line is charged is mounted. -/
def Store.ownerMounted (s : Store) (l : Fin 8) : Bool :=
  match (s.line l).owner with
  | some u => s.mounted u
  | none => false

/-- A fill whose line is abandoned, or whose owner is no longer mounted, ends: the line becomes FREE, a demand for its key is issued if
the key is in the pin set, prefetch is evaluated, and a HELD unit that owns no line leaves HELD (R87, R91, R97, R98, R134). -/
def Store.fillEndsFree (s : Store) (u : Drive) (l : Fin 8) : Store :=
  let freed := (s.dropDemand u l).freeLine l
  let s := match (s.line l).key with
    | some key => freed.reissue u key
    | none => freed
  (s.evalPrefetch u).leaveHeld u

/-- A fill ends with a record (R91). -/
def Store.fillLoaded (s : Store) (u : Drive) (l : Fin 8) (r : TrackRecord) : Store :=
  let s := (s.dropDemand u l).modLine l fun x =>
    { x with state := .clean, record := some r, dirty := [], arrived := [] }
  let s := if r.truncated then s.giveCode .e7 else s
  (s.mergeWaiting l).evalPrefetch u

/-- A fill ends without a usable record (R91). -/
def Store.fillFails (s : Store) (u : Drive) (l : Fin 8) : Store :=
  let s := (s.dropDemand u l).modLine l fun x => { x with state := .fault, record := none, arrived := [] }
  ((s.giveCode .e5).mergeWaiting l).evalPrefetch u

/-- A read of a fill is reported failed (R90, R91, R98). -/
def Store.fillReadFails (s : Store) (l : Fin 8) : Store :=
  match (s.line l).state, (s.line l).owner with
  | .filling, some u => if (s.line l).abandoned || !s.ownerMounted l then s.fillEndsFree u l else s.fillFails u l
  | _, _ => s

/-- Class and age under which the body transaction of a line is asked for: DEMAND if the line is pinned (R90). -/
def Store.bodyClass (s : Store) (u : Drive) (l : Fin 8) : DemandClass × Nat :=
  match (s.unit u).demands.find? fun d => decide (d.line = some l) with
  | some d => (if s.pinned l then .demand else d.cls, d.age)
  | none => (.demand, s.nextAge)

/-- The header transaction of a fill ends with block 0 of the slot (R90 item 1). -/
def Store.headerRead (s : Store) (l : Fin 8) (block : List Byte) : Store :=
  match (s.line l).state, (s.line l).owner, (s.line l).key with
  | .filling, some u, some key =>
    if (s.line l).abandoned || !s.ownerMounted l then s.fillEndsFree u l
    else
      match (s.unit u).mount.entry with
      | none => s.fillFails u l
      | some e =>
        if !storedHeaderOk e key block then s.fillFails u l
        else if storedFlag block 0 then s.fillLoaded u l (loadBlank e key block)
        else
          let ca := s.bodyClass u l
          (s.modLine l fun x => { x with arrived := block }).askFill ca.1
            ⟨l, true, ca.2, e.slotStart key + 1, e.slotBlocks - 1⟩
  | _, _, _ => s

/-- The body transaction of a fill ends with the other blocks of the slot (R90 item 2). -/
def Store.bodyRead (s : Store) (l : Fin 8) (rest : List Byte) : Store :=
  match (s.line l).state, (s.line l).owner, (s.line l).key with
  | .filling, some u, some key =>
    if (s.line l).abandoned || !s.ownerMounted l then s.fillEndsFree u l
    else
      match (s.unit u).mount.entry with
      | none => s.fillFails u l
      | some e =>
        match loadRecord e key ((s.line l).arrived ++ rest) with
        | some r => s.fillLoaded u l r
        | none => s.fillFails u l
  | _, _, _ => s

/-! ### Lines of a unit at its safe point (R98) -/

/-- One line of a unit at its safe point: CLEAN and FAULT lines become FREE, a FILLING line takes the abandoned mark, HELD lines stay
(R98). Lines of demands that had not started have been freed before. -/
def Store.safePointLine (s : Store) (u : Drive) (l : Fin 8) : Store :=
  if (s.line l).owner = some u then
    match (s.line l).state with
    | .clean => s.freeLine l
    | .fault => s.freeLine l
    | .filling => s.modLine l fun x => { x with abandoned := true }
    | _ => s
  else s

/-- The cache's part of a safe point: demands that have not started are cancelled, the pin set empties, and the unit's lines are freed
or abandoned (R87, R97, R98). -/
def Store.safePointLines (s : Store) (u : Drive) : Store :=
  let s := s.cancelWhere u fun _ => true
  let s := s.modUnit u fun x => { x with cylKeys := [] }
  lineNumbers.foldl (fun s l => s.safePointLine u l) s

end Sys2Proof.Machine
end

