-- ==== Sys2Proof/Machine/Decoder.lean ====
section
/-! DEFINITION. The write decoder: flux decoding, marks, spans and their ends (R53 to R78). -/

namespace Sys2Proof.Machine

/-! ### Context -/

/-- Change the span context. -/
def Store.modCtx (s : Store) (f : SpanCtx → SpanCtx) : Store :=
  { s with decoder := { s.decoder with ctx := f s.decoder.ctx } }

/-- Mode FIELD (R53). -/
def SpanCtx.inField (c : SpanCtx) : Bool := decide (c.field ≠ .none)

/-- The span still uses the bytes it receives: it searches for marks, or takes a field. STRAY and DISCARDED spans drop every byte, and
a DATA span does so after its one field (R66, R68, R71). -/
def SpanCtx.attends (c : SpanCtx) : Bool :=
  match c.cls with
  | .unclassed => true
  | .format => true
  | .data => c.inField
  | .stray => false
  | .discarded => false

/-- The entry copy of the bound unit's image. -/
def Store.spanEntry (s : Store) : Option Entry := (s.unit s.decoder.ctx.unit).mount.entry

/-! ### Flux (R58) -/

/-- The half-cells of one flux interval of `t` master clocks under divider `d`: the nearest allowed length, the longer one halfway, and
none for a violation (R58). -/
def classifyInterval (enc : Encoding) (d t : Nat) : Option Nat :=
  match enc with
  | .mfm => if 3 * d ≤ 2 * t ∧ 2 * t ≤ 9 * d then some (min 4 ((2 * t + d) / (2 * d))) else none
  | .fm => if d ≤ 2 * t ∧ 2 * t ≤ 5 * d then some (min 2 ((2 * t + d) / (2 * d))) else none

/-- The half-cells of a classed interval, n - 1 that hold 0 and one that holds 1, each with how many half-cells before the pulse it
was received (R58; log 7). -/
def intervalCells (n : Nat) : List (Bool × Nat) := (List.range n).map fun k => (decide (k + 1 = n), n - 1 - k)

/-- The position of a unit `back` master clocks ago, within a span that began at `a`: p is one less for each byte boundary that has
passed since (R28, R30). -/
def positionBack (a d : Nat) (r : Rotation) (back : Nat) : Nat := max a (r.p - (back - r.divider + (16 * d - 1)) / (16 * d))

/-- The sixteen half-cells of the window as a word, the oldest in bit 15. -/
def windowWord (w : List (Bool × Nat)) : Word16 :=
  w.foldr (fun c acc => (acc <<< 1) ||| (if c.1 then 1 else 0)) 0

/-- The position of the window's oldest half-cell: the position of the byte it holds (R58). -/
def windowPos (w : List (Bool × Nat)) : Nat :=
  match w.getLast? with
  | some c => c.2
  | none => 0

/-! ### Marks (R59 to R64) -/

/-- An entry takes part in recognition on tracks of an encoding (R61). -/
def MarkEntry.considered (e : MarkEntry) (enc : Encoding) : Bool :=
  decide (e.enc = enc) &&
    match enc with
    | .mfm => decide (1 ≤ e.count)
    | .fm => e.idClock != 0xFF

/-- The mark pattern of an MFM entry: its prefix byte (R59). -/
def MarkEntry.prefixCells (e : MarkEntry) : Word16 := halfCells e.preClock e.preData

/-- An identifier byte matches the entry outside its mask (R59, R62). -/
def MarkEntry.identMatches (e : MarkEntry) (b : Byte) : Bool := (b ^^^ e.ident) &&& ~~~e.mask == 0

/-- The places of the mark table, in entry order. -/
def markPlaces : List (Fin 8) := [0, 1, 2, 3, 4, 5, 6, 7]

/-- The half-cells equal the prefix pattern of some considered MFM entry (R62). -/
def isPrefixByte (marks : Vector MarkEntry 8) (w : Word16) : Bool :=
  markPlaces.any fun i => marks[i].considered .mfm && marks[i].prefixCells == w

/-- The first entry that recognizes an MFM mark: run pattern, run length and candidate identifier (R62). -/
def recognizeMfm (marks : Vector MarkEntry 8) (run : Word16) (len : Nat) (ident : Byte) : Option (Fin 8) :=
  markPlaces.find? fun i =>
    marks[i].considered .mfm && decide (marks[i].count ≤ len) && marks[i].prefixCells == run && marks[i].identMatches ident

/-- The first entry that recognizes an FM mark (R59, R63). -/
def recognizeFm (marks : Vector MarkEntry 8) (w : Word16) : Option (Fin 8) :=
  markPlaces.find? fun i =>
    marks[i].considered .fm && (clockOf w == marks[i].idClock) && marks[i].identMatches (dataOf w)

/-- The CRC accumulator at the start of a field (R64). -/
def fieldPreset (enc : Encoding) (e : MarkEntry) (ident : Byte) : Word16 :=
  match enc with
  | .mfm => fieldCrc (List.replicate e.count e.preData ++ [ident])
  | .fm => fieldCrc [ident]

/-- A recognized mark opens a field of `len` bytes and a CRC (R64). The half-cells of a field take no part in a later search
(log 8). -/
def SpanCtx.openField (c : SpanCtx) (f : Field) (len : Nat) (crc : Word16) (entry : Fin 8) (m : Nat) (ident : Byte) : SpanCtx :=
  { c with field := f, len := len, count := 0, crc := crc, crcGot := 0, entry := some entry, markPos := m, ident := ident,
           taken := [], window := [] }

/-- Back to SEARCHING. -/
def SpanCtx.closeField (c : SpanCtx) : SpanCtx := { c with field := .none, window := [] }

/-- Data kind of a data mark (R67, R73). -/
def dataKindOf (k : MarkKind) : DataKind := if k = .deleted then .deleted else .data

/-! ### Format spans: the parse (R70 to R74) -/

/-- Replace the claim that is being parsed. -/
def Store.parseClaim (s : Store) (c : Claim) : Store := { s with staging := .parsing c }

/-- A mark recognized while the buffer is PARSING (R72, R73, R74). -/
def Store.parseMark (s : Store) (c : Claim) (enc : Encoding) (i : Fin 8) (m : Nat) (ident : Byte) : Store :=
  let e := s.marks[i]
  let crc := fieldPreset enc e ident
  match e.kind with
  | .index => s.parseClaim { c with indexM := some m }
  | .ident =>
    let keep := decide (c.sectors.length < Config.maxSectors) && decide (stagedLength c.sectors + 16 ≤ Config.lineBytes)
    s.modCtx fun x => { x.openField (.ident keep) 4 crc i m ident with latest := false }
  | k =>
    if s.decoder.ctx.latest then
      match c.sectors.getLast? with
      | some x =>
        if x.data.isNone ∧ stagedLength c.sectors + dataLen x.n ≤ Config.lineBytes then
          (s.parseClaim { c with sectors := c.sectors.modify (c.sectors.length - 1) fun y =>
              { y with data := some ⟨m, dataKindOf k, ident, true, List.replicate (dataLen x.n) 0⟩ } }).modCtx
            fun z => z.openField .newData (dataLen x.n) crc i m ident
        else s.modCtx fun z => z.openField .dropped (dataLen x.n) crc i m ident
      | none => s
    else s

/-- A span's first mark makes it FORMAT: it claims the staging buffer, or becomes DISCARDED (R65, R71). -/
def Store.startFormat (s : Store) (enc : Encoding) (i : Fin 8) (m : Nat) (ident : Byte) : Store :=
  match s.decoder.ctx.track, s.staging, s.cardLost with
  | some key, .empty, false =>
    let c : Claim := ⟨s.decoder.ctx.unit, key, s.decoder.ctx.a, none, none, []⟩
    ((s.parseClaim c).modCtx fun x => { x with cls := .format }).parseMark c enc i m ident
  | _, _, _ => s.modCtx fun x => { x with cls := .discarded }

/-! ### Data spans (R66 to R68) -/

/-- The line, record and place that a data mark targets (R66). -/
def Store.dataTarget (s : Store) (m : Nat) : Option (Fin 8 × TrackRecord × Nat) :=
  match s.decoder.ctx.track with
  | none => none
  | some key =>
    match s.residentOf key with
    | none => none
    | some l =>
      match (s.line l).record with
      | none => none
      | some r =>
        if r.blank then none
        else
          match targetPlace r m with
          | some i => some (l, r, i)
          | none => none

/-- The target's sector record as acceptance leaves it (R8, R67). -/
def acceptSector (t m : Nat) (kind : DataKind) (ident : Byte) (r : TrackRecord) (i : Nat) (x : Sector) : Sector :=
  { x with data := x.data.map fun (part : DataPart) =>
      { part with d := keptOffset r.enc r.sync t m x ((r.sectors[i + 1]?).map Sector.pos), kind := kind, ident := ident,
                  fault := true } }

/-- A span's first mark makes it DATA: its target is accepted, or it becomes STRAY (R65, R66, R67). -/
def Store.startData (s : Store) (e : Entry) (i : Fin 8) (m : Nat) (ident : Byte) : Store :=
  match s.dataTarget m with
  | none => s.modCtx fun x => { x with cls := .stray }
  | some (l, r, place) =>
    let mark := s.marks[i]
    let len := match r.sectors[place]? with
      | some x => dataLen x.n
      | none => 0
    ((s.modRecord l fun r => modSector place (acceptSector e.trackLen m (dataKindOf mark.kind) ident r place) r).edit l
        (descriptorBlocks place)).modCtx fun x =>
      { x.openField .target len (fieldPreset e.enc mark ident) i m ident with
        cls := .data, target := some place, targetLine := some l }

/-- The line and place of the target while its line still takes edits (R69). -/
def Store.target (s : Store) : Option (Fin 8 × Nat) :=
  match s.decoder.ctx.targetLine, s.decoder.ctx.target with
  | some l, some i => if (s.line l).state.resident then some (l, i) else none
  | _, _ => none

/-- Change the data part of a sector. -/
def Sector.modData (x : Sector) (f : DataPart → DataPart) : Sector := { x with data := x.data.map f }

/-- Data byte `i` of the target is replaced as it completes (R67). -/
def Store.writeTarget (s : Store) (i : Nat) (b : Byte) : Store :=
  match s.target with
  | none => s
  | some (l, place) =>
    let o := match (s.line l).record with
      | some r => dataOffset r.sectors place + i
      | none => 0
    (s.modRecord l (modSector place fun x => x.modData fun (part : DataPart) => { part with bytes := part.bytes.set i b })).edit l
      (blocksOf o 1)

/-- The target's field ends with a matching CRC: its fault flag is cleared and its descriptor written again (R67). -/
def Store.clearTarget (s : Store) : Store :=
  match s.target with
  | none => s
  | some (l, place) =>
    (s.modRecord l (modSector place fun x => x.modData fun (part : DataPart) => { part with fault := false })).edit l
      (descriptorBlocks place)

/-! ### Field bytes (R64, R67, R72, R73) -/

/-- Change the last new sector of the claim that is being parsed. -/
def Store.modLastNew (s : Store) (f : NewSector → NewSector) : Store :=
  match s.staging with
  | .parsing c => s.parseClaim { c with sectors := c.sectors.modify (c.sectors.length - 1) f }
  | _ => s

/-- A new sector joins the claim with its second CRC byte, and is the latest new sector (R72). -/
def Store.addNewSector (s : Store) (x : NewSector) : Store :=
  match s.staging with
  | .parsing c => (s.parseClaim { c with sectors := c.sectors ++ [x] }).modCtx fun z => { z with latest := true }
  | _ => s

/-- A payload byte of the field in progress, the `i`-th. -/
def Store.payloadByte (s : Store) (i : Nat) (b : Byte) : Store :=
  match s.decoder.ctx.field with
  | .ident _ => s.modCtx fun c => { c with taken := c.taken ++ [b] }
  | .target => s.writeTarget i b
  | .newData =>
    s.modLastNew fun (x : NewSector) => { x with data := x.data.map fun (part : NewData) => { part with bytes := part.bytes.set i b } }
  | .dropped => s
  | .none => s

/-- The field's count completes: the CRC is compared and the field ends (R64, R67, R72, R73). -/
def Store.fieldComplete (s : Store) : Store :=
  let c := s.decoder.ctx
  let good := c.crcGot == c.crc
  let s := match c.field with
    | .ident true =>
      s.addNewSector ⟨c.markPos, c.ident, byteAt c.taken 0, byteAt c.taken 1, byteAt c.taken 2, byteAt c.taken 3, !good, none⟩
    | .target => if good then s.clearTarget else s
    | .newData =>
      s.modLastNew fun (x : NewSector) => { x with data := x.data.map fun (part : NewData) => { part with fault := !good } }
    | _ => s
  s.modCtx SpanCtx.closeField

/-- One byte of the field in progress (R64). -/
def Store.fieldByte (s : Store) (b : Byte) : Store :=
  let i := s.decoder.ctx.count
  let len := s.decoder.ctx.len
  if i < len then
    (s.payloadByte i b).modCtx fun c => { c with count := c.count + 1, crc := crcByte c.crc b }
  else if i = len then
    s.modCtx fun c => { c with count := c.count + 1, crcGot := (BitVec.setWidth 16 b) <<< 8 }
  else
    (s.modCtx fun c => { c with count := c.count + 1, crcGot := c.crcGot ||| BitVec.setWidth 16 b }).fieldComplete

/-! ### Half-cells (R58, R59, R62, R63) -/

/-- A mark is recognized by entry `i` at position `m` (R64, R65). -/
def Store.recognized (s : Store) (e : Entry) (i : Fin 8) (m : Nat) (ident : Byte) : Store :=
  match s.decoder.ctx.cls with
  | .unclassed =>
    match (s.marks[i]).kind with
    | .ident => s.startFormat e.enc i m ident
    | .index => s.startFormat e.enc i m ident
    | _ => s.startData e i m ident
  | .format =>
    match s.staging with
    | .parsing c => s.parseMark c e.enc i m ident
    | _ => s
  | _ => s

/-- One half-cell in mode SEARCHING on an MFM track, already in the window; `whole` says that it completes a byte of the grid (R59,
R62). -/
def Store.searchMfm (s : Store) (e : Entry) (whole : Bool) : Store :=
  let c := s.decoder.ctx
  let w := windowWord c.window
  if c.window.length = 16 ∧ isPrefixByte s.marks w then
    s.modCtx fun c =>
      { c with aligned := some 0, run := some w,
               runLen := if whole && c.run == some w then min 3 (c.runLen + 1) else 1 }
  else if whole then
    let s := s.modCtx fun c => { c with aligned := some 0, run := none, runLen := 0 }
    match c.run with
    | some run =>
      match recognizeMfm s.marks run c.runLen (dataOf w) with
      | some i => s.recognized e i (windowPos c.window - 3) (dataOf w)
      | none => s
    | none => s
  else s.modCtx fun c => { c with aligned := c.aligned.map (· + 1) }

/-- One half-cell in mode SEARCHING on an FM track, already in the window (R59, R63). -/
def Store.searchFm (s : Store) (e : Entry) (whole : Bool) : Store :=
  let c := s.decoder.ctx
  let w := windowWord c.window
  match (if c.window.length = 16 then recognizeFm s.marks w else none) with
  | some i =>
    (s.modCtx fun c => { c with aligned := some 0 }).recognized e i (windowPos c.window) (dataOf w)
  | none =>
    s.modCtx fun c => { c with aligned := if whole then some 0 else c.aligned.map (· + 1) }

/-- One half-cell received at position `p` (R58). -/
def Store.halfCell (s : Store) (e : Entry) (p : Nat) (bit : Bool) : Store :=
  if s.decoder.state = .capture ∧ s.decoder.ctx.attends then
    let whole := s.decoder.ctx.aligned == some 15
    let s := s.modCtx fun c => { c with window := ((bit, p) :: c.window).take 16 }
    if s.decoder.ctx.inField then
      if whole then (s.modCtx fun c => { c with aligned := some 0 }).fieldByte (dataOf (windowWord s.decoder.ctx.window))
      else s.modCtx fun c => { c with aligned := c.aligned.map (· + 1) }
    else
      match e.enc with
      | .mfm => s.searchMfm e whole
      | .fm => s.searchFm e whole
  else s

/-- A violation: the prefix run is discarded, or the field in progress ends short; the half-cells left over are discarded and the
alignment is lost (R58, R60). -/
def Store.violation (s : Store) : Store :=
  if s.decoder.state = .capture then
    s.modCtx fun c => { c.closeField with run := none, runLen := 0, aligned := none }
  else s

/-- One flux interval of `t` master clocks that a pulse ended `after` master clocks ago, with the bound unit's timer as it stands: each
half-cell has the position of the byte time in which it was received (R30, R58). -/
def Store.fluxInterval (s : Store) (r : Rotation) (after t : Nat) : Store :=
  match s.spanEntry with
  | none => s
  | some e =>
    match classifyInterval e.enc e.divider t with
    | some n =>
      (intervalCells n).foldl
        (fun s x => s.halfCell e (positionBack s.decoder.ctx.a e.divider r (after + x.2 * e.divider)) x.1) s
    | none => s.violation

/-- One falling edge of WDATA, `after` master clocks ago. An assertion shorter than 150 ns is no pulse, and the interval goes on over
it. The first pulse of a span opens the first interval; each later one ends an interval and opens the next (R58, R183). -/
def Store.fluxEdge (s : Store) (r : Rotation) (after : Nat) (x : FluxEdge) : Store :=
  if x.width < Config.fluxMinNs then s.modCtx fun c => { c with opened := c.opened.map (· + x.since) }
  else
    let s1 := s.modCtx fun c => { c with opened := some 0 }
    match s.decoder.ctx.opened with
    | some g => s1.fluxInterval r after (g + x.since)
    | none => s1

/-- Falling edges of WDATA, oldest first; the last one comes now (R58). -/
def Store.fluxEdges (r : Rotation) : List FluxEdge → Store → Store
  | [], s => s
  | x :: xs, s => Store.fluxEdges r xs (s.fluxEdge r (xs.map FluxEdge.since).sum x)

/-! ### Spans (R54, R56, R57) -/

/-- A span begins in CAPTURE (R53, R54). -/
def Store.startSpan (s : Store) (u : Drive) (side : Bool) (p head : Nat) : Store :=
  { s with decoder := ⟨.capture, { SpanCtx.reset with
      unit := u, side := side, a := p, track := (s.unit u).mount.trackAt head side }⟩ }

/-- A span in CAPTURE is bound to the unit. -/
def Store.spanBound (s : Store) (u : Drive) : Bool :=
  decide (s.decoder.state = .capture) && decide (s.decoder.ctx.unit = u)

/-- The overrun test of a data span that ends at `b` (R68). -/
def Store.overrun (s : Store) (b : Nat) : Store :=
  match s.target with
  | none => s
  | some (l, i) =>
    match (s.line l).record with
    | none => s
    | some r =>
      match r.sectors[i + 1]? with
      | some x =>
        if !x.overflow && decide (x.pos < b) then
          (s.modRecord l (modSector (i + 1) fun y => { y with idFault := true })).edit l (descriptorBlocks (i + 1))
        else s
      | none => s

/-- The marking of a stray span over [a, b) (R77). -/
def Store.strayEnd (s : Store) (a b : Nat) : Store :=
  match s.decoder.ctx.track with
  | none => s
  | some key =>
    match s.residentOf key with
    | none => s
    | some l =>
      match (s.line l).record with
      | none => s
      | some r => if r.blank then s else (s.modRecord l (strayRecord a b)).edit l (strayBlocks a b r)

/-- A format span ends: its claim waits, or is merged at once into a resident or a FAULT line; with no line for its key it holds a
demand, whose end evaluates prefetch (R75, R87, R91). -/
def Store.formatEnd (s : Store) (b : Nat) : Store :=
  match s.staging with
  | .parsing c =>
    let c := { c with b := some b }
    let s := { s with staging := .waiting c }
    match s.lineOf c.key with
    | none => (s.issueDemand c.owner c.key).evalPrefetch c.owner
    | some l =>
      if (s.line l).state.resident ∨ (s.line l).state = .fault then s.mergeClaim l c else s
  | _ => s

/-- The end effect of a span that ends at `b` (R57). -/
def Store.spanEffect (s : Store) (b : Nat) : Store :=
  match s.decoder.ctx.cls with
  | .data => s.overrun b
  | .format => s.formatEnd b
  | .stray => s.strayEnd s.decoder.ctx.a b
  | .unclassed => s.strayEnd s.decoder.ctx.a b
  | .discarded => s

/-- A span in CAPTURE ends at `b`: the field in progress ends short, the end effect is applied, and the end is reported, which restarts
the bound unit's linger timer; the decoder goes to `next` (R56, R57, R105). The rules give the context for the span in progress and at a
reset; between spans the model keeps what the ended span left in it, but for the field in progress and the half-cells received, and
nothing reads it until the next span begins (DESIGN CHOICE, log 39). -/
def Store.endSpan (s : Store) (b : Nat) (next : DecState) : Store :=
  let u := s.decoder.ctx.unit
  let s := s.modCtx SpanCtx.closeField
  let s := s.spanEffect b
  let s := s.restartLinger u
  { s with decoder := { s.decoder with state := next } }

/-- A span bound to the unit, if there is one, ends at `b` and the decoder drains (R56). -/
def Store.endSpanOf (s : Store) (u : Drive) (b : Nat) : Store :=
  if s.spanBound u then s.endSpan b .draining else s

/-- A claim still PARSING or WAITING is dropped, and a span that was parsing becomes DISCARDED (R75). -/
def Store.dropClaim (s : Store) : Store :=
  match s.staging with
  | .empty => s
  | .parsing _ => { s with staging := .empty }.modCtx fun c => { c.closeField with cls := .discarded }
  | .waiting _ => { s with staging := .empty }

/-- The claim of a unit is dropped (R75). -/
def Store.dropClaimOf (s : Store) (u : Drive) : Store :=
  match s.staging.claim with
  | some c => if c.owner = u then s.dropClaim else s
  | none => s

end Sys2Proof.Machine
end

