-- ==== Sys2Proof/Machine/Pass.lean ====
section
/-! DEFINITION. Write-back passes (R109 to R116), card loss (R99, R119), the FAULT of a failed write (R118, R145, R154) and the stops of
write transactions (R145, R146, R149). -/

namespace Sys2Proof.Machine

/-! ### The pass in progress -/

/-- Line, entry copy and record of the pass in progress. -/
def Store.passLine (s : Store) : Option (Fin 8 × Entry × TrackRecord) :=
  match s.wb.current with
  | none => none
  | some l =>
    match s.lineEntry l, (s.line l).record with
    | some e, some r => some (l, e, r)
    | _, _ => none

/-- A block lies above the pass cursor: any block does when the cursor is none (R110). -/
def aboveCursor (cursor : Option Nat) (b : Nat) : Bool :=
  match cursor with
  | none => true
  | some c => decide (c < b)

/-- The smallest block of a dirty set above the cursor and below a bound (R110). -/
def firstBlock (cursor : Option Nat) (bound : Nat) (dirty : List Nat) : Option Nat :=
  (dirty.filter fun b => decide (b < bound) && aboveCursor cursor b).min?

/-- First block at or beyond which a pass takes nothing: the string extent, and 2^k (R110). -/
def passBound (truncForm : Bool) (e : Entry) (r : TrackRecord) : Nat :=
  min (blockCount (passLength truncForm e.slotBytes r)) e.slotBlocks

/-- The next block of the pass, computed afresh at each block boundary (R110, R115). -/
def Store.nextBlock (s : Store) : Option Nat :=
  match s.passLine with
  | none => none
  | some (l, e, r) => firstBlock s.wb.cursor (passBound s.wb.truncForm e r) (s.line l).dirty

/-- The present-map bit of the current line's track is clear and its dirty set is empty (R114). -/
def Store.mapWriteDue (s : Store) : Bool :=
  match s.wb.current with
  | none => false
  | some l =>
    match (s.line l).owner, (s.line l).key with
    | some u, some key =>
      match (s.unit u).mount.entry, (s.unit u).mount.map with
      | some e, some m => !mapBit m (e.trackIndex key) && (s.line l).dirty.isEmpty
      | _, _ => false
    | _, _ => false

/-- A pass over a queued line would send a block: in truncated form always, in whole form if a dirty block lies within the string
(log 34). -/
def Store.passSends (s : Store) (l : Fin 8) : Bool :=
  match s.lineEntry l, (s.line l).record with
  | some e, some r =>
    decide (e.slotBytes < recordLength r) || (firstBlock none (passBound false e r) (s.line l).dirty).isSome
  | _, _ => false

/-! ### The end of a pass (R113) -/

/-- The controller's fields without a pass (R113, R119). -/
def WriteBack.noPass (w : WriteBack) : WriteBack :=
  { w with current := none, cursor := none, owed := false, suspended := false, truncForm := false }

/-- The pass ends: an empty dirty set leaves the line CLEAN, or FREE where its owner is not mounted, and a HELD owner may leave HELD; a
non-empty one leaves it DIRTY and queued (R97, R113, R134). The grant ends with the pass, and with it the suspend request (R149). -/
def Store.passEnd (s : Store) : Store :=
  match s.wb.current with
  | none => s
  | some l =>
    let s := { s with wb := s.wb.noPass, link := { s.link with suspendReq := false } }
    if (s.line l).dirty.isEmpty then
      if s.ownerMounted l then s.modLine l fun x => { x with state := .clean }
      else
        match (s.line l).owner with
        | some u => (s.freeLine l).leaveHeld u
        | none => s.freeLine l
    else (s.modLine l fun x => { x with state := .dirty }).handOver l

/-- The record part is complete: a present-map write is owed, or the pass ends (R110, R113, R114). -/
def Store.recordPartEnd (s : Store) : Store :=
  if s.mapWriteDue then { s with wb := { s.wb with owed := true } } else s.passEnd

/-! ### Card loss (R99, R119) -/

/-- The block of the current line whose transfer has begun and is not confirmed (R99, R153). -/
def Store.unconfirmed (s : Store) : List Nat :=
  match s.link.current with
  | some (.write t) => if t.job = .record ∧ t.phase ≠ .closeStop then s.wb.cursor.toList else []
  | _ => []

/-- What card loss adds to the current line's dirty set: the unconfirmed block, and block 0 where a present-map write was owed or in
progress (R99, R119). -/
def Store.lossBlocks (s : Store) : List Nat := s.unconfirmed ++ if s.wb.owed then [0] else []

/-- Card loss on one line (R99). -/
def Store.loseLine (s : Store) (l : Fin 8) : Store :=
  match (s.line l).state with
  | .free => s
  | .filling => s.freeLine l
  | .clean => s.freeLine l
  | .fault => s.freeLine l
  | .dirty => (s.dropTarget l).modLine l fun x => { x with state := .held }
  | .writing => (s.dropTarget l).modLine l fun x => { x with state := .held }
  | .held => s

/-- Card loss: the pass ends, the queue empties, every line acts by its state, every demand ends, a claim is dropped, and a HELD unit
left without a line leaves HELD (R75, R99, R119, R134). A HELD unit whose only lines are abandoned FILLING ones owns none after this: R134
says that a loss by FAULT leaves every mount state as it is and that a removal leaves HELD unchanged, and also that a HELD unit leaves HELD
at the event that leaves it owning no line; the model follows the last and makes the unit EMPTY (DESIGN CHOICE, log 50). The caller has
already moved the link out of its available states. -/
def Store.cardLoss (s : Store) : Store :=
  let blocks := s.lossBlocks
  let s := match s.wb.current with
    | some l => s.modLine l fun x => { x with dirty := insertNats blocks x.dirty }
    | none => s
  let s := { s with wb := { s.wb.noPass with queue := [] },
                    link := { s.link with demandQ := [], prefetchQ := [], suspendReq := false } }
  let s := (s.modDemands .a fun _ => []).modDemands .b fun _ => []
  let s := lineNumbers.foldl Store.loseLine s.dropClaim
  (s.leaveHeld .a).leaveHeld .b

/-! ### FAULT (R118, R145, R154) -/

/-- A waiting CATALOGUE request when the link enters FAULT: a read is reported failed, a resume write is dropped (R131, R154). -/
def Store.catFails (s : Store) (r : CatReq) : Store :=
  match r with
  | .header => s.catalogueInvalid
  | .directory _ _ => s.catalogueInvalid
  | .imageHeader u _ => s.badHeader u
  | .resume => s

/-- A write transaction fails: the link enters FAULT, reports card loss and gives E6; waiting requests end (R145, R154). -/
def Store.enterFault (s : Store) : Store :=
  let s := { s with link := { s.link with state := .fault, park := none } }
  let s := s.cardLoss
  let waiting := s.link.catQ
  let s := { s with link := { s.link with current := none, ended := none, catQ := [] },
                    images := { s.images with resumeAgain := false } }
  waiting.foldl Store.catFails (s.giveCode .e6)

/-! ### Write transactions -/

/-- The link goes to IDLE with no current transaction (R148). -/
def Store.linkIdle (s : Store) : Store := { s with link := { s.link with state := .idle, current := none } }

/-- Blocks of the card, 0 where none is known. -/
def Store.capacityOf (s : Store) : Nat := s.link.capacity.getD 0

/-- A write transaction opens with its first block; an address beyond the card fails at once (R143, R145). -/
def Store.openWrite (s : Store) (job : WriteJob) (cls : ReqClass) (addr : Nat) (data : List Byte) : Store :=
  if addr < s.capacityOf then
    { s with link := { s.link with state := .busy, current := some (.write ⟨job, cls, addr, addr, 1, .transfer, data⟩) } }
  else s.enterFault

/-- A record block's transfer begins: it leaves the dirty set and the cursor becomes its number (R110). -/
def Store.takeBlock (s : Store) (l : Fin 8) (b : Nat) : Store :=
  { s.modLine l (fun x => { x with dirty := x.dirty.filter fun y => decide (y ≠ b) }) with
    wb := { s.wb with cursor := some b } }

/-- Card block of record block `b` of the line (R109). -/
def Store.recordAddr (s : Store) (l : Fin 8) (e : Entry) (b : Nat) : Nat :=
  match (s.line l).key with
  | some key => e.slotStart key + b
  | none => 0

/-- A new write transaction of the pass opens with record block `b` (R110, R146). -/
def Store.openRecord (s : Store) (l : Fin 8) (e : Entry) (b : Nat) : Store :=
  let addr := s.recordAddr l e b
  if addr < s.capacityOf then (s.takeBlock l b).openWrite .record .writeBack addr [] else s.enterFault

/-- The present-map write of the current line opens (R114). -/
def Store.openMap (s : Store) : Store :=
  match s.wb.current with
  | none => s
  | some l =>
    match (s.line l).owner, (s.line l).key with
    | some u, some key =>
      match (s.unit u).mount.entry, (s.unit u).mount.map with
      | some e, some m =>
        s.openWrite .presentMap .writeBack e.base (imageHeaderBlock e (setMapBit m (e.trackIndex key)))
      | _, _ => s
    | _, _ => s

/-- The pass goes on with a new transaction while it keeps the card: its next record block, its present-map write, or its end
(R110, R113, R114, R146). Where the pass was stopped or suspended with its present-map write owed and an edit has meanwhile added a block
above the cursor, R111 and R112 would write that block later in this pass, while R110 and R114 have its record part completed already: the
model writes the map first and leaves the block to a later pass (DESIGN CHOICE, log 47). -/
def Store.passContinue (s : Store) : Store :=
  if s.wb.owed then s.openMap
  else
    match s.nextBlock, s.passLine with
    | some b, some (l, e, _) => s.openRecord l e b
    | _, _ =>
      let s := s.recordPartEnd
      if s.wb.owed then s.openMap else s

/-- A pass starts: the head of the queue becomes the current line, WRITING, in whole or truncated form (R109, R115). -/
def Store.startPass (s : Store) : Store :=
  match s.wb.queue with
  | [] => s
  | l :: rest =>
    let trunc := match s.lineEntry l, (s.line l).record with
      | some e, some r => decide (e.slotBytes < recordLength r)
      | _, _ => false
    let s := { s with wb := { s.wb with queue := rest, current := some l, cursor := none, owed := false, suspended := false,
                                        truncForm := trunc } }
    match trunc, s.lineEntry l, (s.line l).record with
    | true, some e, some r =>
      s.modLine l fun x => { x with state := .writing, dirty := allBlocks (passLength true e.slotBytes r) }
    | _, _, _ => s.modLine l fun x => { x with state := .writing }

/-- A grant to WRITE-BACK: the suspended pass resumes, or a pass starts (R109, R112, R148). -/
def Store.grantWriteBack (s : Store) : Store :=
  match s.wb.current with
  | some _ => { s with wb := { s.wb with suspended := false } }.passContinue
  | none => s.startPass.passContinue

/-- Change the write transaction in progress. -/
def Store.setWrite (s : Store) (t : WriteTxn) : Store := { s with link := { s.link with current := some (.write t) } }

/-- The link sends the stop that closes the transaction (R146). -/
def Store.closeWrite (s : Store) (t : WriteTxn) : Store := s.setWrite { t with phase := .closeStop }

/-- The block boundary after a confirmed record block (R110, R112, R113, R116, R146, R149). -/
def Store.recordConfirmed (s : Store) (t : WriteTxn) : Store :=
  let s := if s.wb.truncForm && s.wb.cursor == some 0 then s.giveCode .e7 else s
  match s.nextBlock, s.passLine with
  | some b, some (l, e, _) =>
    if s.link.suspendReq then s.closeWrite t
    else if s.wb.cursor = some (b - 1) ∧ 0 < b then
      if s.recordAddr l e b < s.capacityOf then
        (s.takeBlock l b).setWrite { t with block := s.recordAddr l e b, attempt := 1 }
      else (s.closeWrite t).enterFault
    else s.closeWrite t
  | _, _ => s.recordPartEnd.closeWrite t

/-- The bit of the current line's track is set in its owner's present map (R114). -/
def Store.setPresent (s : Store) : Store :=
  match s.wb.current with
  | none => s
  | some l =>
    match (s.line l).owner, (s.line l).key with
    | some u, some key =>
      s.modMount u fun m =>
        match m.entry with
        | some e => { m with map := m.map.map fun b => setMapBit b (e.trackIndex key) }
        | none => m
    | _, _ => s

/-- The block in transfer is confirmed (R145). -/
def Store.blockConfirmed (s : Store) (t : WriteTxn) : Store :=
  match t.job with
  | .record => s.recordConfirmed t
  | .presentMap => s.setPresent.passEnd.closeWrite t
  | .resume => s.closeWrite t

/-- The block in transfer is not OK: another attempt after a stop, or, at the third, FAULT (R145). -/
def Store.blockFails (s : Store) (t : WriteTxn) : Store :=
  if t.attempt < Config.maxAttempts then s.setWrite { t with phase := .retryStop } else s.enterFault

/-- The write transaction has ended with its stop: the link is IDLE, and a resume write may be followed by one more, a pass is
suspended, goes on, or has ended (R133, R146, R149). -/
def Store.writeEnds (s : Store) (t : WriteTxn) : Store :=
  let s := s.linkIdle
  match t.job with
  | .resume =>
    if s.images.resumeAgain then { s with images := { s.images with resumeAgain := false } }.askResume else s
  | _ =>
    match s.wb.current with
    | none => { s with link := { s.link with suspendReq := false } }
    | some _ =>
      if s.link.suspendReq then
        { s with link := { s.link with suspendReq := false }, wb := { s.wb with suspended := true } }
      else s.passContinue

/-- The busy period of a stop ends (R145, R146). -/
def Store.stopEnds (s : Store) : Store :=
  match s.link.current with
  | some (.write t) =>
    match t.phase with
    | .transfer => s
    | .retryStop => s.setWrite { t with phase := .transfer, attempt := t.attempt + 1 }
    | .closeStop => s.writeEnds t
  | _ => s

/-! ### Drain (R108) -/

/-- No line is DIRTY and none is WRITING (R108). -/
def Store.drained (s : Store) : Bool :=
  lineNumbers.all fun l => decide ((s.line l).state ≠ .dirty ∧ (s.line l).state ≠ .writing)

/-- A drain request: every DIRTY line joins the queue in ascending order (R108). -/
def Store.requestDrain (s : Store) : Store :=
  let s := { s with wb := { s.wb with drain := true } }
  (lineNumbers.filter fun l => decide ((s.line l).state = .dirty)).foldl Store.queueTail s

end Sys2Proof.Machine
end

