-- ==== Sys2Proof/Machine/Encoder.lean ====
section
/-! DEFINITION. The stream encoder: which byte the source line holds at a position, its half-cells, and the emit cursor (R40 to R52). -/

namespace Sys2Proof.Machine

/-! ### Bytes and their half-cells -/

/-- A byte to send: an ordinary one, or one with a clock pattern of its own (R41 to R43). -/
inductive Emit where
  | plain (b : Byte)
  | mark (data clock : Byte)
deriving DecidableEq, Repr

/-- The default entry of an encoding and kind (R38, R40). -/
def defaultEntry (enc : Encoding) (kind : MarkKind) : MarkEntry :=
  match enc, kind with
  | .mfm, .ident => defaultMarks[0]
  | .mfm, .data => defaultMarks[1]
  | .mfm, .deleted => defaultMarks[2]
  | .mfm, .index => defaultMarks[3]
  | .fm, .ident => defaultMarks[4]
  | .fm, .data => defaultMarks[5]
  | .fm, .deleted => defaultMarks[6]
  | .fm, .index => defaultMarks[7]

/-- The emission entry (R40). -/
def emissionEntry (marks : Vector MarkEntry 8) (enc : Encoding) (kind : MarkKind) : MarkEntry :=
  match markPlaces.find? fun i => decide (marks[i].enc = enc ∧ marks[i].kind = kind) with
  | some i => marks[i]
  | none => defaultEntry enc kind

/-- Position `j` of a mark's prefix and identifier positions (R42, R43). -/
def markByte (enc : Encoding) (e : MarkEntry) (ident : Byte) (j : Nat) : Emit :=
  match enc with
  | .mfm => if 3 ≤ j then .plain ident else if j < 3 - e.count then .plain 0 else .mark e.preData e.preClock
  | .fm => .mark ident e.idClock

/-- The CRC that closes a field, faulted where its flag is set (R44, R45). -/
def fieldCheck (enc : Encoding) (e : MarkEntry) (ident : Byte) (payload : List Byte) (fault : Bool) : Word16 :=
  let crc := match enc with
    | .mfm => fieldCrc (List.replicate e.count e.preData ++ ident :: payload)
    | .fm => fieldCrc (ident :: payload)
  if fault then crc ^^^ 0xFFFF else crc

/-- Byte `j` of a CRC: the high byte, then the low byte (R44). -/
def checkByte (crc : Word16) (j : Nat) : Byte := if j = 0 then (crc >>> 8).setWidth 8 else crc.setWidth 8

/-- Data kind as a mark kind (R40). -/
def DataKind.mark : DataKind → MarkKind
  | .data => .data
  | .deleted => .deleted

/-- The byte at offset `j` of the index mark (R48). -/
def indexByte (marks : Vector MarkEntry 8) (r : TrackRecord) (j : Nat) : Emit :=
  let e := emissionEntry marks r.enc .index
  if j < r.sync then .plain 0 else markByte r.enc e e.ident (j - r.sync)

/-- The byte at offset `j` of a sector's identifier field, sync run included (R48). -/
def identByte (marks : Vector MarkEntry 8) (r : TrackRecord) (x : Sector) (j : Nat) : Emit :=
  let e := emissionEntry marks r.enc .ident
  let m := r.sync + markPrefix r.enc + 1
  if j < r.sync then .plain 0
  else if j < m then markByte r.enc e x.ident (j - r.sync)
  else if j < m + 4 then .plain (byteAt [x.c, x.h, x.r, x.n] (j - m))
  else .plain (checkByte (fieldCheck r.enc e x.ident [x.c, x.h, x.r, x.n] x.idFault) (j - m - 4))

/-- The byte at offset `j` of a sector past its identifier field (R48). -/
def dataByte (marks : Vector MarkEntry 8) (r : TrackRecord) (x : Sector) (part : DataPart) (j : Nat) : Emit :=
  let e := emissionEntry marks r.enc part.kind.mark
  let len := dataLen x.n
  let m := part.d + markPrefix r.enc + 1
  if j < dataRegionStart r.enc r.sync 0 part.d then .plain r.fill
  else if j < part.d then .plain 0
  else if j < m then markByte r.enc e part.ident (j - part.d)
  else if j < m + len then .plain (byteAt part.bytes (j - m))
  else .plain (checkByte (fieldCheck r.enc e part.ident (fitTo len part.bytes) part.fault) (j - m - len))

/-- The byte at offset `j` of a presented sector (R48). -/
def sectorByte (marks : Vector MarkEntry 8) (r : TrackRecord) (x : Sector) (j : Nat) : Emit :=
  if j < idLength r.enc r.sync then identByte marks r x j
  else
    match x.data with
    | some part => dataByte marks r x part j
    | none => .plain r.fill

/-- The presented sector whose extent holds a position (R48). -/
def sectorAt (r : TrackRecord) (p : Nat) : Option Sector :=
  r.sectors.find? fun x => !x.overflow && decide (x.pos ≤ p) && decide (p < x.pos + footprint r.enc r.sync x)

/-- The byte that a record holds at position `p` of a track of `t` byte times (R48). -/
def recordByte (marks : Vector MarkEntry 8) (t : Nat) (r : TrackRecord) (p : Nat) : Emit :=
  let inIndex := match presentedIndex t r with
    | some i => if i ≤ p ∧ p < i + indexLength r.enc r.sync then some (p - i) else none
    | none => none
  match inIndex with
  | some j => indexByte marks r j
  | none =>
    match sectorAt r p with
    | some x => sectorByte marks r x (p - x.pos)
    | none => .plain r.fill

/-- The clock half-cells that R41 gives an ordinary MFM byte after a cell with data bit `prev`. -/
def mfmClock (prev : Bool) (b : Byte) : Byte := ~~~(b ||| (b >>> 1) ||| (if prev then 0x80 else 0))

/-- The half-cells of a byte to send (R41 to R43). -/
def emitCells (enc : Encoding) (prev : Bool) : Emit → Word16
  | .mark data clock => halfCells clock data
  | .plain b =>
    match enc with
    | .mfm => halfCells (mfmClock prev b) b
    | .fm => halfCells 0xFF b

/-! ### The emit cursor -/

/-- Change the store. -/
def State.modStore (s : State) (f : Store → Store) : State := { s with store := f s.store }

/-- Change the mechanism. -/
def State.modMech (s : State) (f : Mech → Mech) : State := { s with mech := f s.mech }

/-- The cursor sends nothing: no half-cell of the byte in progress is still sent (R49). -/
def Cursor.silent (c : Cursor) : Cursor := { c with emitting := false, prev := false, cells := 0 }

/-- RDATA is silenced at once (R49). -/
def State.silence (s : State) : State := s.modMech fun m => { m with cursor := m.cursor.silent }

/-- The source unit that the selections give (R46). -/
def Mech.sourceUnit (m : Mech) : Option Drive :=
  if m.a.lines.selected then some .a else if m.b.lines.selected then some .b else none

/-- The source unit is computed again; a change of it silences RDATA at once (R46, R49, R157; log 9). -/
def State.resource (s : State) : State :=
  if s.mech.cursor.source = s.mech.sourceUnit then s
  else s.modMech fun m => { m with cursor := { m.cursor.silent with source := m.sourceUnit, line := none } }

/-- The resident line of a unit's presented track (R47). -/
def State.presentedLine (s : State) (u : Drive) : Option (Fin 8) :=
  match (s.store.unit u).mount.trackAt (s.mech.unit u).lines.head (s.mech.unit u).lines.side with
  | some key => s.store.residentOf key
  | none => none

/-- The record that a unit presents and the length of its track, while the conditions of R47 that concern a source unit hold. -/
def State.presentedRecord (s : State) (u : Drive) : Option (Fin 8 × TrackRecord × Nat) :=
  if (s.mech.unit u).rot.state = .rotating ∧ s.mech.pins.wgate = false then
    match s.presentedLine u, (s.mech.unit u).rot.params with
    | some l, some q =>
      match (s.store.line l).record with
      | some r => if r.blank then none else some (l, r, q.t)
      | none => none
    | _, _ => none
  else none

/-- The source unit's next byte time begins: it carries the byte at the unit's position, or is silent; the first byte from a line, a
byte after silence, and a byte at an index event report a presentation (R47, R48, R50, R51). -/
def State.beginByte (s : State) (u : Drive) (index : Bool) : State :=
  match s.presentedRecord u with
  | some (l, r, t) =>
    let c := s.mech.cursor
    let out := recordByte s.store.marks t r (s.mech.unit u).rot.p
    let cells := emitCells r.enc (c.emitting && c.prev) out
    let s := s.modMech fun m =>
      { m with cursor := { c with line := some l, emitting := true, cells := cells, prev := cells.getLsbD 0 } }
    if index || !c.emitting || decide (c.line ≠ some l) then s.modStore fun st => st.present l else s
  | none => s.modMech fun m => { m with cursor := { m.cursor.silent with line := s.presentedLine u } }

/-- A byte boundary of a unit reaches the encoder if the unit is the source unit (R28, R49). -/
def State.byteBoundary (s : State) (u : Drive) (index : Bool) : State :=
  if s.mech.cursor.source = some u then s.beginByte u index else s

end Sys2Proof.Machine
end

