-- ==== Sys2Proof/Machine/Lines.lean ====
section
/-! DEFINITION. Rotation timers and the line interface: spin-up, start and stop (R28 to R36), select and motor mapping (R156 to R158),
stepping (R159 to R162), side changes (R164), write protection (R167), and the park test that follows every command (R151). -/

namespace Sys2Proof.Machine

/-! ### Rotation (R28 to R34) -/

/-- Change the rotation timer of a unit. -/
def State.modRot (s : State) (u : Drive) (f : Rotation → Rotation) : State := s.modMech fun m => m.modRot u f

/-- Change the line-interface fields of a unit. -/
def State.modLines (s : State) (u : Drive) (f : UnitLines → UnitLines) : State := s.modMech fun m => m.modLines u f

/-- A timer that turns from position 0 (R32). -/
def Rotation.start (r : Rotation) : Rotation := { r with state := .rotating, spinUp := none, p := 0, divider := 0 }

/-- A timer that has stopped; the parameters are kept (R33). -/
def Rotation.stop (r : Rotation) : Rotation := { r with state := .stopped, spinUp := none, p := 0, divider := 0 }

/-- A timer takes the parameters of an image at mount entry; it is STOPPED at this moment (R24, R31). -/
def Rotation.load (r : Rotation) (q : RotParams) : Rotation := { r.stop with params := some q }

/-- The start of rotation (R32). -/
def State.startRotation (s : State) (u : Drive) : State := (s.modRot u Rotation.start).byteBoundary u false

/-- Spin-up starts from STOPPED, with the parameters of the mounted image; a spin-up time of 0 goes straight to ROTATING (R31). -/
def State.startSpin (s : State) (u : Drive) : State :=
  if (s.mech.unit u).rot.state = .stopped ∧ (s.mech.unit u).rot.params.isSome then
    if s.store.images.config.spinUp = 0 then s.startRotation u
    else s.modRot u fun r => { r with state := .spinning, spinUp := some (Config.ms s.store.images.config.spinUp) }
  else s

/-- A stop: a span bound to the unit ends at the unit's position, the timer goes to STOPPED, and the source unit's RDATA falls silent
(R33, R34, R49, R56). What the cursor's source line holds while the source unit is stopped the rules do not say: the model keeps the
line it last held until the unit's next byte boundary, whatever becomes of that line (DESIGN CHOICE, log 37), or until the unit leaves
MOUNTED and UNMOUNTING (log 44). -/
def State.stopUnit (s : State) (u : Drive) : State :=
  let p := (s.mech.unit u).rot.p
  let s := (s.modStore fun st => st.endSpanOf u p).modRot u Rotation.stop
  if s.mech.cursor.source = some u then s.silence else s

/-- One byte time of a rotating unit expires; the expiry that would take p to T is the index event, which ends a span of the unit at T
(R28, R56). -/
def State.byteExpiry (s : State) (u : Drive) : State :=
  match (s.mech.unit u).rot.state, (s.mech.unit u).rot.params with
  | .rotating, some q =>
    if (s.mech.unit u).rot.p + 1 < q.t then
      (s.modRot u fun r => { r with p := r.p + 1, divider := 0 }).byteBoundary u false
    else
      ((s.modStore fun st => st.endSpanOf u q.t).modRot u fun r => { r with p := 0, divider := 0 }).byteBoundary u true
  | _, _ => s

/-- What leaving MOUNTED and UNMOUNTING does outside the mount context: a claim of the unit is dropped, the unit stops, its rotation
parameters become absent, its change latch is set, its pin set empties and its linger timer is idle (R34, R75, R84, R105, R130, R168).
Where it is the source unit, the rules do not say when the cursor's source line becomes none: the model makes it none at this event,
because the unit presents no track any more, while a stop alone keeps it (DESIGN CHOICE, log 44). -/
def State.leaveMounted (s : State) (u : Drive) : State :=
  let s := (s.modStore fun st => st.dropClaimOf u).stopUnit u
  let s := s.modRot u fun r => { r with params := none }
  let s := s.modLines u fun l => { l with latch := true }
  let s := if s.mech.cursor.source = some u then s.modMech fun m => { m with cursor := { m.cursor with line := none } } else s
  s.modStore fun st => st.modUnit u fun x => { x with linger := none, cylKeys := [] }

/-! ### Select and motor (R156 to R158) -/

/-- Level of the select line of a unit, under a configuration (R156). -/
def selectLevel (c : WorkConfig) (p : Pins) : Drive → Bool
  | .a => if c.swapSel then p.sel1 else p.sel0
  | .b => c.enableB && if c.swapSel then p.sel0 else p.sel1

/-- Level of the motor line mapped to a unit, under a configuration (R156, R158; log 24). -/
def motorLevel (c : WorkConfig) (p : Pins) : Drive → Bool
  | .a => if c.sharedMotor then p.motor0 else if c.swapSel then p.motor1 else p.motor0
  | .b => if c.sharedMotor then p.motor0 else c.enableB && if c.swapSel then p.motor0 else p.motor1

/-- A unit's select event (R157). -/
def State.selectUnit (s : State) (u : Drive) : State :=
  (s.modLines u fun l => { l with selected := true, side := s.mech.pins.side }).resource

/-- A unit's deselect event (R56, R157). -/
def State.deselectUnit (s : State) (u : Drive) : State :=
  let p := (s.mech.unit u).rot.p
  ((s.modStore fun st => st.endSpanOf u p).modLines u fun l => { l with selected := false }).resource

/-- A unit's selected field follows its select line (R156). -/
def State.reselect (s : State) (u : Drive) : State :=
  let level := selectLevel s.store.images.config s.mech.pins u
  if level = (s.mech.unit u).lines.selected then s else if level then s.selectUnit u else s.deselectUnit u

/-- A unit's motor-on event (R31, R152, R158). -/
def State.motorOnUnit (s : State) (u : Drive) : State :=
  let s := s.modLines u fun l => { l with motorIn := true }
  let s := if s.store.images.config.enabled u then s.modStore Store.wake else s
  if s.store.mounted u then s.startSpin u else s

/-- A unit's motor-off event (R33, R158). -/
def State.motorOffUnit (s : State) (u : Drive) : State := (s.modLines u fun l => { l with motorIn := false }).stopUnit u

/-- A unit's motor input follows its motor line (R158). -/
def State.remotor (s : State) (u : Drive) : State :=
  let level := motorLevel s.store.images.config s.mech.pins u
  if level = (s.mech.unit u).lines.motorIn then s else if level then s.motorOnUnit u else s.motorOffUnit u

/-- Both units' selected fields follow the select lines (log 10). -/
def State.reselectAll (s : State) : State := (s.reselect .a).reselect .b

/-- Both units' motor inputs follow the motor lines (log 10). -/
def State.remotorAll (s : State) : State := (s.remotor .a).remotor .b

/-- Change the input levels. -/
def State.modPins (s : State) (f : Pins → Pins) : State := s.modMech fun m => { m with pins := f m.pins }

/-- Level of a select line. -/
def Pins.sel (p : Pins) : CableLine → Bool
  | .l0 => p.sel0
  | .l1 => p.sel1

/-- The inputs with a select line at a level. -/
def Pins.setSel (p : Pins) (x : CableLine) (v : Bool) : Pins :=
  match x with
  | .l0 => { p with sel0 := v }
  | .l1 => { p with sel1 := v }

/-- The inputs with a motor line at a level. -/
def Pins.setMotor (p : Pins) (x : CableLine) (v : Bool) : Pins :=
  match x with
  | .l0 => { p with motor0 := v }
  | .l1 => { p with motor1 := v }

/-! ### Steps and sides (R159 to R164) -/

/-- Head position after an accepted step pulse (R159). -/
def stepHead (cphys : Nat) (up : Bool) (h : Nat) : Nat := if up then (if h + 1 < cphys then h + 1 else h) else h - 1

/-- Prefetch is evaluated when a key of the old pin set has been filled blank since (R89, R91). -/
def Store.evalIfFilled (old s : Store) (u : Drive) : Store :=
  if (old.pinSet u).any fun k => (old.residentOf k).isNone && (s.residentOf k).isSome then s.evalPrefetch u else s

/-- The cache's part of an accepted step pulse: direction, and the end of PREFETCH demands that have not started; a key of the pin set
that loses its line by it is demanded again (R87, R93, R94, R160). -/
def Store.stepTaken (s : Store) (u : Drive) (up : Bool) : Store :=
  let s := s.modUnit u fun x => { x with prefetchUp := up }
  let ended := s.notStarted u fun d => decide (d.cls = .prefetching)
  let s := ended.foldl (fun s d => s.cancelDemand u d) s
  Store.evalIfFilled s (ended.foldl (fun s d => s.reissue u d.key) s) u

/-- The line interface's part of an accepted step pulse (R159, R160, R162, R168). -/
def UnitLines.step (l : UnitLines) (c : WorkConfig) (up mounted : Bool) : UnitLines :=
  { l with head := stepHead c.cphys up l.head, settle := some (Config.ms c.settle), latch := l.latch && !mounted }

/-- A step pulse reaches a selected unit, which accepts it unless a span in CAPTURE is bound to it (R159 to R161). -/
def State.stepUnit (s : State) (up : Bool) (u : Drive) : State :=
  if (s.mech.unit u).lines.selected && !s.store.spanBound u then
    (s.modLines u fun l => l.step s.store.images.config up (s.store.mounted u)).modStore fun st => st.stepTaken u up
  else s

/-- A side change reaches a selected unit: its side follows the level, and a span bound to it ends (R56, R164). -/
def State.sideUnit (s : State) (u : Drive) : State :=
  if (s.mech.unit u).lines.selected then
    let p := (s.mech.unit u).rot.p
    (s.modStore fun st => st.endSpanOf u p).modLines u fun l => { l with side := s.mech.pins.side }
  else s

/-! ### Write protection and spans (R54, R167) -/

/-- A unit's WPROT level (R135, R167). -/
def State.wprot (s : State) (u : Drive) : Bool :=
  !s.store.mounted u || (match (s.store.unit u).mount.entry with
    | some e => decide (e.policy = .protect)
    | none => false) || s.store.locked || (s.mech.unit u).lines.protect

/-- A span begins at an assertion of WGATE on the unit (R54). -/
def State.spanBegins (s : State) (u : Drive) : Bool :=
  decide (s.store.decoder.state = .idle) && decide ((s.mech.unit u).rot.state = .rotating) && !s.wprot u

/-! ### Park test (R151) -/

/-- A cache line is DIRTY (R151). -/
def Store.anyDirty (s : Store) : Bool := lineNumbers.any fun l => decide ((s.line l).state = .dirty)

/-- The motor input of an enabled unit is asserted (R151). -/
def State.motorBusy (s : State) : Bool :=
  s.mech.a.lines.motorIn || (s.store.images.config.enableB && s.mech.b.lines.motorIn)

/-- The store's part of the park test (R151; log 6). -/
def Store.parkReady (s : Store) : Bool :=
  decide (s.link.state = .idle) && s.link.demandQ.isEmpty && s.link.catQ.isEmpty && s.link.prefetchQ.isEmpty && s.wb.idle &&
    !s.anyDirty && s.link.ended.isNone

/-- The park test (R151). -/
def State.parkTest (s : State) : Bool := s.store.parkReady && !s.motorBusy

/-- The park test is made after every command: its coming to hold starts the park timer, its ceasing to hold cancels it (R151). -/
def State.settlePark (s : State) : State :=
  s.modStore fun st =>
    { st with link := { st.link with park :=
        if s.parkTest then
          match st.link.park with
          | some t => some t
          | none => some (Config.ms (1000 * st.images.config.park))
        else none } }

end Sys2Proof.Machine
end

