-- ==== Sys2Proof/Machine/Catalogue.lean ====
section
/-! DEFINITION. The image manager's larger operations: catalogue reads and installation (R120 to R124), lookups and mount entry (R125,
R131, R132), safe point (R129, R130), and what a card's return and removal do to images (R100, R134, R137, R142). -/

namespace Sys2Proof.Machine

/-! ### Reads that fail -/

/-- A read is reported failed to its requester (R91, R120, R131, R144). -/
def Store.failRead (s : Store) (job : ReadJob) : Store :=
  match job with
  | .fillHeader l => s.fillReadFails l
  | .fillBody l => s.fillReadFails l
  | .catHeader => s.catalogueInvalid
  | .directory => s.catalogueInvalid
  | .imageHeader u => s.badHeader u

/-! ### The catalogue (R120 to R124) -/

/-- The catalogue is valid: table, resume slots and working configuration are taken, the mark table is rebuilt, and the panel drops its
candidate and a disabled unit (R39, R120, R121, R124, R172, R173). The resume slots come from the copy as it was read: an FF that an
eject's lookup gave between the two reads of the catalogue is lost (DESIGN CHOICE, log 40). -/
def Store.takeCatalogue (s : Store) (copy : List Byte) (table : List Entry) : Store :=
  let config := clampConfig copy
  let s := { s with images := { s.images with table := table, reading := false, config := config },
                    marks := rebuildMarks config.overrides }
  let s := s.modUnit .a fun x => { x with resume := resumeSlot (byteAt copy 16) }
  let s := s.modUnit .b fun x => { x with resume := resumeSlot (byteAt copy 17) }
  let s := s.clearCandidate
  { s with panel := { s.panel with addressed := if config.enableB then s.panel.addressed else .a } }

/-- Both units are offered a mount (R136, R137). -/
def Store.offerMounts (s : Store) : Store := (s.offerMount .a).offerMount .b

/-- A head position above the new Cphys - 1 is set to it (R124). -/
def UnitLines.clampHead (l : UnitLines) (cphys : Nat) : UnitLines := { l with head := min l.head (cphys - 1) }

/-- A valid catalogue is installed: the line interface takes its configuration at the same event, and then the mounts are offered
(R124, R136, R137, R156, R158). -/
def State.install (s : State) (copy : List Byte) (table : List Entry) : State :=
  let s := s.modStore fun st => st.takeCatalogue copy table
  let cphys := s.store.images.config.cphys
  let s := (s.modLines .a fun l => l.clampHead cphys).modLines .b fun l => l.clampHead cphys
  s.reselectAll.remotorAll.modStore Store.offerMounts

/-- The catalogue header read ends with block 0: kept as the catalogue copy and checked; a directory is asked for, or the empty one is
installed at once (R120). -/
def State.catalogueRead (s : State) (block : List Byte) : State :=
  let s := s.modStore fun st => { st with images := { st.images with catalogue := some block } }
  if catalogueOk s.store.capacityOf block then
    if catalogueCount block = 0 then s.install block []
    else s.modStore fun st => st.askCat (.directory (catalogueStart block) (directoryBlocks block))
  else s.modStore Store.catalogueInvalid

/-- The directory read ends: the table is built and the configuration installed (R120, R121). -/
def State.directoryRead (s : State) (dir : List Byte) : State :=
  match s.store.images.catalogue with
  | some copy => s.install copy (buildTable s.store.capacityOf (catalogueCount copy) dir)
  | none => s

/-! ### Lookup (R131) -/

/-- The unit holds, owns a line of, or is looking up a slot (R131, fourth case). -/
def Store.claimsSlot (s : Store) (u : Drive) (n : Nat) : Bool :=
  let m := (s.unit u).mount
  (decide (m.state = .mounted ∨ m.state = .unmounting ∨ m.state = .held) && (m.slot == some n)) ||
    (s.ownedLines u).any (fun l =>
      match (s.line l).key with
      | some k => k.slot == n
      | none => false) ||
    (decide (m.state = .changingLookup) && decide (m.target = some (.slot n)))

/-- The lookup of a slot: the cases of R131 in their order. A unit that the configuration has disabled meanwhile mounts nothing and
becomes EMPTY (R23, R82; log 30). -/
def Store.lookupSlot (s : Store) (u : Drive) (n : Nat) : Store :=
  if s.cardLost || s.images.reading then
    (s.heldOrEmpty u).modMount u fun m => { m with pending := some (.slot n) }
  else
    match lookupEntry s.images.table n with
    | none => s.enterEmpty u
    | some e =>
      if s.claimsSlot u.other n then (s.giveCode .e4).enterEmpty u
      else if !e.valid then (s.giveCode .e3).enterEmpty u
      else if s.images.config.enabled u then
        (s.modMount u fun m => { m with state := .changingLookup, timer := none }).askCat (.imageHeader u e.base)
      else s.enterEmpty u

/-- The change-interval timer expires and the unit looks up its target (R131, R133). -/
def Store.lookup (s : Store) (u : Drive) : Store :=
  match (s.unit u).mount.target with
  | some (.slot n) => s.lookupSlot u n
  | some .eject => ((s.heldOrEmpty u).modUnit u fun x => { x with resume := none }).askResume
  | none => s.heldOrEmpty u

/-! ### Mount entry (R132) -/

/-- Step ratio of an image (R132). -/
def stepRatio (c : WorkConfig) (e : Entry) : Nat := if c.autoDouble = true ∧ 2 * e.cimg ≤ c.cphys then 2 else 1

/-- The mount context at mount entry (R132). -/
def Store.enterMounted (s : Store) (u : Drive) (e : Entry) (map : BitVec 168) : Store :=
  s.modMount u fun m =>
    { m with state := .mounted, slot := some e.slot, entry := some e, map := some map,
             ratio := stepRatio s.images.config e, target := none, timer := none }

/-- Mount entry: rotation parameters, spin-up with the motor on, an arrival, the resume slot and its write; a request that waited in
stage LOOKUP is then acted on (R131, R132, R133). -/
def State.mountEntry (s : State) (u : Drive) (e : Entry) (map : BitVec 168) : State :=
  let s := s.modStore fun st => st.enterMounted u e map
  let s := s.modRot u fun r => r.load (rotParams e)
  let s := if (s.mech.unit u).lines.motorIn then s.startSpin u else s
  let head := (s.mech.unit u).lines.head
  let side := (s.mech.unit u).lines.side
  s.modStore fun st =>
    (((st.arrive u head side).modUnit u fun x => { x with resume := some e.slot }).askResume).servePending u

/-- The entry that a unit in stage LOOKUP looks up. -/
def Store.lookupTarget (s : Store) (u : Drive) : Option Entry :=
  match (s.unit u).mount.state, (s.unit u).mount.target with
  | .changingLookup, some (.slot n) => lookupEntry s.images.table n
  | _, _ => none

/-- The image header read of a lookup ends (R125, R131). -/
def State.imageHeaderRead (s : State) (u : Drive) (block : List Byte) : State :=
  match s.store.lookupTarget u with
  | some e =>
    if headerMatches e block then s.mountEntry u e (headerMap block) else s.modStore fun st => st.badHeader u
  | none => s.modStore fun st => st.badHeader u

/-! ### Safe point (R129, R130) -/

/-- The conditions of a unit's safe point (R129). -/
def Store.atSafePoint (s : Store) (u : Drive) : Bool :=
  decide ((s.unit u).mount.state = .unmounting) && !s.spanBound u && (s.claimKey u).isEmpty &&
    (s.linesIn u .dirty).isEmpty && (s.linesIn u .writing).isEmpty

/-- The unit leaves the mounted states at its safe point (R98, R130). -/
def State.passSafePoint (s : State) (u : Drive) : State :=
  (s.leaveMounted u).modStore fun st => (st.safePointLines u).enterInterval u (st.unit u).mount.pending

/-! ### Card return (R100, R137, R139, R142) -/

/-- The HELD lines, ascending. -/
def Store.heldLines (s : Store) : List (Fin 8) := lineNumbers.filter fun l => decide ((s.line l).state = .held)

/-- A HELD line becomes DIRTY and is handed to the write-back controller (R100, R107). -/
def Store.unhold (s : Store) (l : Fin 8) : Store := (s.modLine l fun x => { x with state := .dirty }).queueTail l

/-- The identity outcome reaches the cache (R100, R142). -/
def Store.settleHeld (s : Store) (same locked : Bool) : Store :=
  let held := s.heldLines
  if held.isEmpty then s
  else if !same then (((s.freeLines held).giveCode .e8).leaveHeld .a).leaveHeld .b
  else if locked then s.giveCode .e9
  else held.foldl Store.unhold s

/-- Step 6 of initialization is done: the link is IDLE with its new card, the outcome of the comparison reaches the cache, the new
identity is remembered, and the catalogue header read is asked for (R120, R139, R141, R142). -/
def Store.cardReturn (s : Store) (id : CardId) (capacity : Nat) (locked : Bool) : Store :=
  let same := s.link.remembered == some id
  let s := { s with
    link := { s.link with state := .idle, initTimer := none, initStep := 1, found := none, identity := some id,
                          remembered := some id, capacity := some capacity, lock := some locked },
    images := { s.images with reading := true } }
  (s.settleHeld same locked).askCat .header

/-! ### Card removal (R134, R153) -/

/-- A mounted unit's context at a removal: HELD if it owns a HELD line, otherwise EMPTY (R134). -/
def Store.removeMounted (s : Store) (u : Drive) : Store :=
  if s.ownsHeld u then s.modMount u fun m => { m with state := .held, ratio := 1, target := none, timer := none }
  else s.enterEmpty u

/-- A CHANGING unit's context at a removal: its target waits as the pending request (R134). -/
def Store.removeChanging (s : Store) (u : Drive) : Store :=
  (s.modMount u fun m => { m with pending := if m.pending.isSome then m.pending else m.target }).heldOrEmpty u

/-- A mount context at card removal (R134). -/
def State.removeUnit (s : State) (u : Drive) : State :=
  match (s.store.unit u).mount.state with
  | .mounted => (s.leaveMounted u).modStore fun st => st.removeMounted u
  | .unmounting => (s.leaveMounted u).modStore fun st => st.removeMounted u
  | .changingInterval => s.modStore fun st => st.removeChanging u
  | .changingLookup => s.modStore fun st => st.removeChanging u
  | .empty => s
  | .held => s

/-- The catalogue leaves with its card (R120, R121, R133, R173). -/
def Store.dropCatalogue (s : Store) : Store :=
  let s := { s with images := { s.images with catalogue := none, reading := false, table := [], resumeAgain := false } }
  let s := s.modUnit .a fun x => { x with resume := none }
  let s := s.modUnit .b fun x => { x with resume := none }
  s.clearCandidate

/-- The link without a card: everything but the remembered identity at its reset value (R153). -/
def Link.removed (k : Link) : Link := { Link.reset with remembered := k.remembered }

/-- A removal: card loss if the card was available, then the image manager's part (R139, R153, R134). -/
def State.removeCard (s : State) : State :=
  let available := s.store.link.available
  let s := s.modStore fun st => { st with link := { st.link with state := .absent } }
  let s := if available then s.modStore Store.cardLoss else s
  let s := s.modStore fun st => { st with link := st.link.removed }
  ((s.removeUnit .a).removeUnit .b).modStore Store.dropCatalogue

end Sys2Proof.Machine
end

