-- ==== Sys2Proof/Machine/CardLink.lean ====
section
/-! DEFINITION. The card link: detection and initialization (R140, R141), the arbiter's grants (R147, R148), block outcomes of reads and
writes (R143 to R145), and parking (R151). -/

namespace Sys2Proof.Machine

/-- Change the link. -/
def Store.modLink (s : Store) (f : Link → Link) : Store := { s with link := f s.link }

/-! ### Detection and initialization (R140, R141) -/

/-- The contact is asserted in ABSENT: the debounce timer starts (R140). -/
def Link.detect (k : Link) : Link := if k.state = .absent then { k with debounce := some (Config.ms Config.debounceMs) } else k

/-- Debounce has run with the contact asserted: INITIALIZING (R140, R141). -/
def Link.debounced (k : Link) : Link :=
  { k with state := .initializing, debounce := none, initTimer := some (Config.ms Config.initMs), initStep := 1, found := none }

/-- The step in which a card's answer leaves the initialization; a step that is not done is repeated from its start (R141; log 20). -/
def Link.initNext (k : Link) (r : InitResponse) : Link :=
  match k.initStep, r with
  | 1, .errorResponse => k
  | 1, _ => { k with initStep := 2 }
  | 2, .readyReport => { k with initStep := 3 }
  | 3, .identify serial date capacity =>
    if capacity = 0 then k else { k with initStep := 4, found := some (⟨serial, date⟩, capacity) }
  | _, _ => k

/-- The answer ends step 4; steps 5 and 6 need no further answer (R141). -/
def Link.initDone (k : Link) (r : InitResponse) : Option (CardId × Nat) :=
  if k.initStep = 4 ∧ r ≠ .errorResponse then k.found else none

/-- A card's answer in INITIALIZING, with the level of the lock contact (R141). -/
def Store.initAnswer (s : Store) (r : InitResponse) (lock : Bool) : Store :=
  match s.link.initDone r with
  | some (id, capacity) => s.cardReturn id capacity lock
  | none => s.modLink fun k => k.initNext r

/-- The initialization timer expires: FAULT with E1 (R141, R154). -/
def Store.initFails (s : Store) : Store :=
  (s.modLink fun k => { k with state := .fault, initTimer := none, initStep := 1, found := none }).giveCode .e1

/-! ### Grants (R147, R148) -/

/-- A read transaction begins; one that reaches beyond the card fails at once (R143, R144). -/
def Store.openRead (s : Store) (job : ReadJob) (cls : ReqClass) (start count : Nat) (age : Option Nat) : Store :=
  if start < s.capacityOf ∧ start + count ≤ s.capacityOf then
    s.modLink fun k => { k with state := .busy, current := some (.read ⟨job, cls, start, count, start, 1, age, []⟩) }
  else s.failRead job

/-- The demand whose line's header transaction starts is IN FLIGHT (R87, R90). -/
def Store.inFlight (s : Store) (l : Fin 8) : Store :=
  let f := fun (ds : List Demand) => ds.map fun d => if d.line = some l then { d with stage := .inFlight } else d
  (s.modDemands .a f).modDemands .b f

/-- A fill request is granted (R90, R148). -/
def Store.grantFill (s : Store) (r : FillReq) (cls : ReqClass) : Store :=
  if r.body then s.openRead (.fillBody r.line) cls r.start r.count (some r.age)
  else (s.inFlight r.line).openRead (.fillHeader r.line) cls r.start r.count (some r.age)

/-- A CATALOGUE request is granted (R120, R131, R133, R148). -/
def Store.grantCat (s : Store) (r : CatReq) : Store :=
  match r with
  | .header => s.openRead .catHeader .catalogue 0 1 none
  | .directory start count => s.openRead .directory .catalogue start count none
  | .imageHeader u base => s.openRead (.imageHeader u) .catalogue base 1 none
  | .resume =>
    s.openWrite .resume .catalogue 0 (resumeBlock (s.images.catalogue.getD []) (s.unit .a).resume (s.unit .b).resume)

/-- The IDLE link grants the first request of the highest class that has one (R148). -/
def Store.grant (s : Store) : Store :=
  match s.link.demandQ with
  | r :: rest => (s.modLink fun k => { k with demandQ := rest }).grantFill r .demand
  | [] =>
    match s.link.catQ with
    | r :: rest => (s.modLink fun k => { k with catQ := rest }).grantCat r
    | [] =>
      if s.wbRequest then s.grantWriteBack
      else
        match s.link.prefetchQ with
        | r :: rest => (s.modLink fun k => { k with prefetchQ := rest }).grantFill r .prefetching
        | [] => s

/-- The arbiter may choose: the link is IDLE, and no read waits for its requester's step (R148; log 6). -/
def Store.mayGrant (s : Store) : Bool := decide (s.link.state = .idle) && s.link.ended.isNone

/-- A grant would lead to a transaction, or to the end of one more pass that sends something (R148; log 34). -/
def Store.grantDue (s : Store) : Bool :=
  s.mayGrant &&
    (!s.link.demandQ.isEmpty || !s.link.catQ.isEmpty || s.wb.current.isSome || s.wb.queue.any (fun l => s.passSends l) ||
      (!s.wbRequest && !s.link.prefetchQ.isEmpty))

/-! ### Block outcomes (R143 to R145) -/

/-- Replace the read transaction in progress. -/
def Store.setRead (s : Store) (t : ReadTxn) : Store := s.modLink fun k => { k with current := some (.read t) }

/-- A block of a read is handed over; the last one ends the transaction (R144). -/
def Store.readOk (s : Store) (t : ReadTxn) (data : List Byte) : Store :=
  let got := t.got ++ data
  if t.next + 1 < t.start + t.count then s.setRead { t with next := t.next + 1, got := got }
  else s.linkIdle.modLink fun k => { k with ended := some (t.job, got) }

/-- An attempt of a read stops at a block: the next attempt starts at it, and the third failure ends the transaction (R144). -/
def Store.readFails (s : Store) (t : ReadTxn) : Store :=
  if t.attempt < Config.maxAttempts then s.setRead { t with attempt := t.attempt + 1 } else s.linkIdle.failRead t.job

/-- One block of a read with its link check (R143, R144). -/
def Store.readBlock (s : Store) (t : ReadTxn) (r : ReadResult) : Store :=
  match r with
  | .block data check =>
    let block := fitTo Config.blockBytes data
    if linkCheck block = check then s.readOk t block else s.readFails t
  | .cardError => s.readFails t

/-- The outcome of a block being written (R143, R145). -/
def Store.writeBlock (s : Store) (t : WriteTxn) (r : WriteResult) : Store :=
  match r with
  | .accepted => s.blockConfirmed t
  | .checkMismatch => s.blockFails t
  | .rejected => s.blockFails t

/-- No response within 8 byte times: TIMEOUT of the block in transfer (R143). In INITIALIZING the step is repeated from its start,
which changes no field (R141). -/
def Store.noResponse (s : Store) : Store :=
  match s.link.current with
  | some (.read t) => s.readFails t
  | some (.write t) => if t.phase = .transfer then s.blockFails t else s
  | none => s

/-- A block or a stop is busy for longer than 250 ms (R143, R145). -/
def Store.busyTimeout (s : Store) : Store :=
  match s.link.current with
  | some (.write t) => if t.phase = .transfer then s.blockFails t else s.enterFault
  | _ => s

/-! ### The ends of reads -/

/-- The finished read that waits, if its job satisfies a test. -/
def Store.endedIf (s : Store) (test : ReadJob → Bool) : Option (ReadJob × List Byte) :=
  match s.link.ended with
  | some (job, data) => if test job then some (job, data) else none
  | none => none

/-- The requester takes its finished read (log 6). -/
def Store.takeEnded (s : Store) : Store := s.modLink fun k => { k with ended := none }

end Sys2Proof.Machine
end

