-- ==== Sys2Proof/Machine/PanelOps.lean ====
section
/-! DEFINITION. The panel controller: gestures (R171), the candidate walk (R172, R173), requests (R174), panel protect (R175), the
restart (R176), and the reset of the part (R136, R155, R170, R183). -/

namespace Sys2Proof.Machine

/-! ### Key sets -/

/-- A key is in a set. -/
def KeySet.has (s : KeySet) : Key → Bool
  | .kUnit => s.kUnit
  | .kDown => s.kDown
  | .kUp => s.kUp
  | .kLoad => s.kLoad

/-- A set with a key put in or taken out. -/
def KeySet.put (s : KeySet) (k : Key) (v : Bool) : KeySet :=
  match k with
  | .kUnit => { s with kUnit := v }
  | .kDown => { s with kDown := v }
  | .kUp => { s with kUp := v }
  | .kLoad => { s with kLoad := v }

/-- The set of one key. -/
def KeySet.one (k : Key) : KeySet := KeySet.empty.put k true

/-- The set of UP and DOWN. -/
def KeySet.upDown : KeySet := ⟨false, true, true, false⟩

/-- The set of UNIT and LOAD. -/
def KeySet.unitLoad : KeySet := ⟨true, false, false, true⟩

/-- Number of keys in a set. -/
def KeySet.size (s : KeySet) : Nat := s.kUnit.toNat + s.kDown.toNat + s.kUp.toNat + s.kLoad.toNat

/-- The keys of one set that are not in another. -/
def KeySet.minus (s t : KeySet) : KeySet :=
  ⟨s.kUnit && !t.kUnit, s.kDown && !t.kDown, s.kUp && !t.kUp, s.kLoad && !t.kLoad⟩

/-- Change the panel. -/
def Store.modPanel (s : Store) (f : Panel → Panel) : Store := { s with panel := f s.panel }

/-! ### Gestures (R171) -/

/-- The hold time of a set of keys that has just become a pair (R171). -/
def pairTime (k : KeySet) : Option Nat :=
  if k = KeySet.upDown then some (Config.ms Config.holdMs)
  else if k = KeySet.unitLoad then some (Config.ms Config.restartHoldMs)
  else none

/-- A gesture of one unspent key. -/
def Gesture.start (k : Key) : Gesture :=
  { keys := KeySet.one k, timer := if k = .kLoad then some (Config.ms Config.holdMs) else none, spent := false }

/-- A key joins a gesture: a second key may make a pair of the table; any other joining key spends the gesture (R171). -/
def Gesture.join (g : Gesture) (k : Key) : Gesture :=
  let keys := g.keys.put k true
  if g.spent then { g with keys := keys }
  else if keys.size = 2 ∧ (pairTime keys).isSome then { keys := keys, timer := pairTime keys, spent := false }
  else { keys := keys, timer := none, spent := true }

/-- The candidate timer starts again while a candidate is set (R173). -/
def Panel.restartCandidate (p : Panel) : Panel :=
  { p with candTimer := if p.candidate.isSome then some (Config.ms Config.candidateMs) else p.candTimer }

/-- The first press of a gesture clears the fault display, or else cancels a restart that is pending; either spends the gesture
(R171, R176, R178). -/
def Store.beginGesture (s : Store) (k : Key) : Store :=
  let spent : Gesture := ⟨KeySet.one k, none, true⟩
  if s.panel.faultOn then s.modPanel fun p => { p with faultOn := false, gesture := some spent }
  else if s.panel.restart then
    { s with wb := { s.wb with drain := false } }.modPanel fun p => { p with restart := false, gesture := some spent }
  else s.modPanel fun p => { p with gesture := some (Gesture.start k) }

/-- A key press begins or joins a gesture; UNIT and LOAD presses restart the candidate timer (R171, R173; log 22). A press that falls
together with a restart that was taken first finds its key down at the reset: it is ignored until released (R176; log 41). -/
def Store.pressKey (s : Store) (k : Key) : Store :=
  if s.panel.justReset then s.modPanel fun p => { p with ignored := p.ignored.put k true }
  else
    let s := match s.panel.gesture with
      | none => s.beginGesture k
      | some g => s.modPanel fun p => { p with gesture := some (g.join k) }
    if k = .kUnit ∨ k = .kLoad then s.modPanel Panel.restartCandidate else s

/-! ### Candidate and requests (R172 to R174) -/

/-- UNIT toggles the addressed unit while unit B is enabled (R172). -/
def Store.toggleUnit (s : Store) : Store :=
  if s.images.config.enableB then (s.modPanel fun p => { p with addressed := p.addressed.other }).clearCandidate else s

/-- The slots of the valid entries of a table (R173). -/
def validSlots (table : List Entry) : List Nat := (table.filter fun e => e.valid).map fun e => e.slot

/-- The smallest number of a list. -/
def leastOf (ns : List Nat) : Option Nat :=
  ns.foldl (fun best n => match best with
    | some b => some (min b n)
    | none => some n) none

/-- The largest number of a list. -/
def greatestOf (ns : List Nat) : Option Nat :=
  ns.foldl (fun best n => match best with
    | some b => some (max b n)
    | none => some n) none

/-- UP and DOWN among the valid slots, from a start point if there is one (R173). -/
def walkSlots (up : Bool) (start : Option Nat) (slots : List Nat) : Option Nat :=
  match up, start with
  | true, some n => (leastOf (slots.filter fun x => decide (n < x))).orElse fun _ => leastOf slots
  | true, none => leastOf slots
  | false, some n => (greatestOf (slots.filter fun x => decide (x < n))).orElse fun _ => greatestOf slots
  | false, none => greatestOf slots

/-- Start point of the walk (R173). -/
def Store.walkStart (s : Store) : Option Nat :=
  match s.panel.candidate with
  | some n => some n
  | none =>
    let m := (s.unit s.panel.addressed).mount
    if m.state = .mounted then m.slot else none

/-- UP or DOWN steps the candidate and restarts its timer (R173). -/
def Store.stepCandidate (s : Store) (up : Bool) : Store :=
  match walkSlots up s.walkStart (validSlots s.images.table) with
  | some n => s.modPanel fun p => { p with candidate := some n, candTimer := some (Config.ms Config.candidateMs) }
  | none => s

/-- A short LOAD requests the candidate (R174). -/
def Store.shortLoad (s : Store) : Store :=
  match s.panel.candidate with
  | some n => s.clearCandidate.request s.panel.addressed (.slot n)
  | none => s

/-- The discard action (R101, R134, R174). -/
def Store.discard (s : Store) (u : Drive) : Store :=
  let held := s.linesIn u .held
  if held.isEmpty then s else ((s.freeLines held).giveCode .e8).leaveHeld u

/-- LOAD held for 2 s: discard for a HELD unit, otherwise an eject request (R174). -/
def Store.longLoad (s : Store) : Store :=
  let u := s.panel.addressed
  let s := s.clearCandidate
  if (s.unit u).mount.state = .held then s.discard u else s.request u .eject

/-- The release action of an unspent gesture (R171). -/
def Store.releaseAction (s : Store) (keys : KeySet) : Store :=
  if keys = KeySet.one .kUnit then s.toggleUnit
  else if keys = KeySet.one .kUp then s.stepCandidate true
  else if keys = KeySet.one .kDown then s.stepCandidate false
  else if keys = KeySet.one .kLoad then s.shortLoad
  else s

/-- A key of a gesture is released with `rest` still down: the last one ends the gesture with its release action; another one spends it
(R171). -/
def Store.releaseFrom (s : Store) (g : Gesture) (rest : KeySet) : Store :=
  if rest = KeySet.empty then
    let s := s.modPanel fun p => { p with gesture := none }
    if g.spent then s else s.releaseAction g.keys
  else s.modPanel fun p => { p with gesture := some { g with timer := none, spent := true } }

/-- A key is released, with the set of keys that stay down; one that was down at a reset does nothing (R170, R171, R173). R171 has a key
released from a spent gesture do nothing, and R173 has each UP or DOWN release restart the candidate timer: the model restarts it also where
the gesture is spent (DESIGN CHOICE, log 22). -/
def Store.releaseKey (s : Store) (k : Key) (down : KeySet) : Store :=
  if s.panel.ignored.has k then s.modPanel fun p => { p with ignored := p.ignored.put k false }
  else
    let s := match s.panel.gesture with
      | some g => s.releaseFrom g (down.minus s.panel.ignored)
      | none => s
    if k = .kUp ∨ k = .kDown then s.modPanel Panel.restartCandidate else s

/-- A restart begins: it is pending, and the drain is requested (R108, R176). -/
def Store.beginRestart (s : Store) : Store := (s.modPanel fun p => { p with restart := true }).requestDrain

/-- The hold action of a gesture is taken, which spends it (R171, R174 to R176). -/
def State.holdAction (s : State) (g : Gesture) : State :=
  let s := s.modStore fun st => st.modPanel fun p => { p with gesture := some { g with timer := none, spent := true } }
  if g.keys = KeySet.one .kLoad then s.modStore Store.longLoad
  else if g.keys = KeySet.upDown then s.modLines s.store.panel.addressed fun l => { l with protect := !l.protect }
  else if g.keys = KeySet.unitLoad then s.modStore Store.beginRestart
  else s

/-! ### Resets (R136, R155, R170, R183) -/

/-- A reset of the part: every state at its reset value, the inputs as they are; the selected and motor-input fields follow them, a
card in the socket is a fresh insertion, and the keys that are down are ignored until released (R136, R138, R155, R170). -/
def State.resetPart (s : State) : State :=
  let store := { Store.reset with
    link := if s.mech.pins.cd then Link.reset.detect else Link.reset,
    panel := { Panel.reset with ignored := s.mech.pins.keys } }
  let s : State := { s with mech := { Mech.reset with pins := s.mech.pins }, store := store }
  s.reselectAll.remotorAll

/-- A restart takes effect; E8 is given after it if any line was HELD (R101, R170, R176). -/
def State.restartPart (s : State) : State :=
  let held := !s.store.heldLines.isEmpty
  let s := s.resetPart.modStore fun st => st.modPanel fun p => { p with justReset := true }
  if held then s.modStore fun st => st.giveCode .e8 else s

end Sys2Proof.Machine
end

