-- ==== Sys2Proof/Machine/Rotation.lean ====
section
/-! DEFINITION. Meanings of POWER_ON_RESET and of the rotation commands (R28 to R36, R158, R183). -/

namespace Sys2Proof.Machine

/-- What a command answers: the next state, after the park test that follows every command (R151). -/
def State.answer (s : State) : Host.Outcome State Fault Refusal := .next s.settlePark

/-- POWER_ON_RESET: every state takes its reset value, and start-up begins (R136, R183). -/
def execPowerOnReset (s : State) : Host.Outcome State Fault Refusal := s.resetPart.answer

/-- BYTE_TIME_EXPIRY: p advances, or returns to 0 with the index event, and the encoder takes the byte boundary (R28, R47 to R51). -/
def execByteTimeExpiry (u : Drive) (s : State) : Host.Outcome State Fault Refusal := (s.byteExpiry u).answer

/-- SPIN_UP_EXPIRY: a SPINNING timer starts rotation (R32). -/
def execSpinUpExpiry (u : Drive) (s : State) : Host.Outcome State Fault Refusal :=
  if (s.mech.unit u).rot.state = .spinning then (s.startRotation u).answer else s.answer

/-- MOTOR_ON: a motor line is asserted; each unit whose motor input it moves takes the motor-on event (R31, R152, R158). -/
def execMotorOn (line : CableLine) (s : State) : Host.Outcome State Fault Refusal :=
  (s.modPins fun p => p.setMotor line true).remotorAll.answer

/-- MOTOR_OFF: a motor line is released; each unit whose motor input it moves takes the motor-off event (R33, R158). -/
def execMotorOff (line : CableLine) (s : State) : Host.Outcome State Fault Refusal :=
  (s.modPins fun p => p.setMotor line false).remotorAll.answer

end Sys2Proof.Machine
end

