-- ==== Sys2Proof/Machine/Cable.lean ====
section
/-! DEFINITION. Meanings of the cable commands: select, step, side (R156 to R164) and the arrival that ends a step-settle time (R85,
R162). -/

namespace Sys2Proof.Machine

/-- SELECT: a select line is asserted, and the unit it names is selected (R156, R157). -/
def execSelect (line : CableLine) (s : State) : Host.Outcome State Fault Refusal :=
  (s.modPins fun p => p.setSel line true).reselectAll.answer

/-- DESELECT: a select line is released, and the unit it names is deselected (R56, R157). -/
def execDeselect (line : CableLine) (s : State) : Host.Outcome State Fault Refusal :=
  (s.modPins fun p => p.setSel line false).reselectAll.answer

/-- STEP_PULSE: the pulse reaches each selected unit, with DIR sampled at the edge; an assertion shorter than 1 us is no pulse (R159 to
R161, R183). -/
def execStepPulse (edge : StepEdge) (s : State) : Host.Outcome State Fault Refusal :=
  let s := s.modPins fun p => { p with dir := edge.dir }
  if edge.width < Config.stepMinNs then s.answer else ((s.stepUnit edge.dir .a).stepUnit edge.dir .b).answer

/-- ARRIVAL: a running step-settle timer expires, and the cache takes the arrival with head and side as they stand (R85, R162). -/
def execArrival (u : Drive) (s : State) : Host.Outcome State Fault Refusal :=
  if (s.mech.unit u).lines.settle.isSome then
    ((s.modLines u fun l => { l with settle := none }).modStore fun st =>
      st.arrive u (s.mech.unit u).lines.head (s.mech.unit u).lines.side).answer
  else s.answer

/-- SIDE_CHANGE: SIDE changes to its other level, which each selected unit follows (R56, R164). -/
def execSideChange (s : State) : Host.Outcome State Fault Refusal :=
  (((s.modPins fun p => { p with side := !p.side }).sideUnit .a).sideUnit .b).answer

end Sys2Proof.Machine
end

