-- ==== Sys2Proof/Machine/Writing.lean ====
section
/-! DEFINITION. Meanings of the write commands: WGATE and the flux on WDATA (R47, R54 to R68). -/

namespace Sys2Proof.Machine

/-- WGATE_ASSERT: RDATA falls silent at once, and a span begins on the source unit if the conditions of R54 hold (R47, R49, R54). -/
def execWgateAssert (s : State) : Host.Outcome State Fault Refusal :=
  if s.mech.pins.wgate then s.answer
  else
    let s := (s.modPins fun p => { p with wgate := true }).silence
    match s.mech.sourceUnit with
    | none => s.answer
    | some u =>
      if s.spanBegins u then
        (s.modStore fun st => st.startSpan u s.mech.pins.side (s.mech.unit u).rot.p (s.mech.unit u).lines.head).answer
      else s.answer

/-- WGATE_RELEASE: a span in CAPTURE ends at the bound unit's position, and the decoder is IDLE (R56, R57). -/
def execWgateRelease (s : State) : Host.Outcome State Fault Refusal :=
  if s.mech.pins.wgate then
    let s := s.modPins fun p => { p with wgate := false }
    match s.store.decoder.state with
    | .capture => (s.modStore fun st => st.endSpan (s.mech.unit st.decoder.ctx.unit).rot.p .idle).answer
    | _ => (s.modStore fun st => { st with decoder := { st.decoder with state := .idle } }).answer
  else s.answer

/-- DECODED_BYTE: falling edges of WDATA reach the decoder, which takes them in CAPTURE and discards them otherwise (R53, R58). -/
def execDecodedByte (edges : List FluxEdge) (s : State) : Host.Outcome State Fault Refusal :=
  if s.store.decoder.state = .capture then
    (s.modStore fun st => Store.fluxEdges (s.mech.unit st.decoder.ctx.unit).rot edges st).answer
  else s.answer

/-- FLUX_VIOLATION: an interval has grown past the upper bound (R58, R60). -/
def execFluxViolation (s : State) : Host.Outcome State Fault Refusal := (s.modStore Store.violation).answer

end Sys2Proof.Machine
end

