-- ==== Sys2Proof/Machine/Cache.lean ====
section
/-! DEFINITION. Meanings of the cache's and the write-back controller's own commands: waiting demands (R88), fill transactions (R90) and
the linger timer (R105). -/

namespace Sys2Proof.Machine

/-- DEMAND_TAKES_LINE: the unit's waiting demands are examined again, oldest first; a blank fill among them evaluates prefetch (R88, R89,
R91). -/
def execDemandTakesLine (u : Drive) (s : State) : Host.Outcome State Fault Refusal :=
  (s.modStore fun st => Store.evalIfFilled st (st.serveWaiting u) u).answer

/-- HEADER_TRANSACTION_END: a fill's header block is examined (R90). -/
def execHeaderTransactionEnd (s : State) : Host.Outcome State Fault Refusal :=
  match s.store.link.ended with
  | some (.fillHeader l, data) => (s.modStore fun st => st.takeEnded.headerRead l data).answer
  | _ => s.answer

/-- BODY_TRANSACTION_END: a fill's record is checked, adjusted and laid out (R19, R90). -/
def execBodyTransactionEnd (s : State) : Host.Outcome State Fault Refusal :=
  match s.store.link.ended with
  | some (.fillBody l, data) => (s.modStore fun st => st.takeEnded.bodyRead l data).answer
  | _ => s.answer

/-- LINGER_EXPIRY: a running linger timer expires (R105). -/
def execLingerExpiry (u : Drive) (s : State) : Host.Outcome State Fault Refusal :=
  if (s.store.unit u).linger.isSome then (s.modStore fun st => st.lingerOut u).answer else s.answer

end Sys2Proof.Machine
end

