-- ==== Sys2Proof/Machine/Card.lean ====
section
/-! DEFINITION. Meanings of the card link's commands (R140, R141, R143 to R154). -/

namespace Sys2Proof.Machine

/-- ARBITER_GRANT: the IDLE link grants the first request of the highest class (R148). -/
def execArbiterGrant (s : State) : Host.Outcome State Fault Refusal :=
  if s.store.mayGrant then (s.modStore Store.grant).answer else s.answer

/-- READ_BLOCK_OUTCOME: a block of a read ends (R143, R144). -/
def execReadBlockOutcome (r : ReadResult) (s : State) : Host.Outcome State Fault Refusal :=
  match s.store.link.current with
  | some (.read t) => (s.modStore fun st => st.readBlock t r).answer
  | _ => s.answer

/-- WRITE_BLOCK_OUTCOME: a block of a write ends (R143, R145). -/
def execWriteBlockOutcome (r : WriteResult) (s : State) : Host.Outcome State Fault Refusal :=
  match s.store.link.current with
  | some (.write t) => if t.phase = .transfer then (s.modStore fun st => st.writeBlock t r).answer else s.answer
  | _ => s.answer

/-- STOP_BUSY_END: the busy period of a write transaction's stop ends (R145, R146, R149). -/
def execStopBusyEnd (s : State) : Host.Outcome State Fault Refusal := (s.modStore Store.stopEnds).answer

/-- LINK_RESPONSE_TIMEOUT: no response within 8 byte times (R141, R143). -/
def execLinkResponseTimeout (s : State) : Host.Outcome State Fault Refusal := (s.modStore Store.noResponse).answer

/-- READ_DATA_TIMEOUT: no data within 100 ms (R143). -/
def execReadDataTimeout (s : State) : Host.Outcome State Fault Refusal :=
  match s.store.link.current with
  | some (.read t) => (s.modStore fun st => st.readFails t).answer
  | _ => s.answer

/-- WRITE_BUSY_TIMEOUT: a block or a stop is busy for longer than 250 ms (R143, R145). -/
def execWriteBusyTimeout (s : State) : Host.Outcome State Fault Refusal := (s.modStore Store.busyTimeout).answer

/-- CARD_DETECT_ASSERT: the contact closes; in ABSENT the debounce timer starts (R140). -/
def execCardDetectAssert (s : State) : Host.Outcome State Fault Refusal :=
  if s.mech.pins.cd then s.answer
  else ((s.modPins fun p => { p with cd := true }).modStore fun st => st.modLink Link.detect).answer

/-- DEBOUNCE_EXPIRY: the contact has held for 50 ms, and initialization starts (R140, R141). -/
def execDebounceExpiry (s : State) : Host.Outcome State Fault Refusal :=
  if s.store.link.state = .absent ∧ s.store.link.debounce.isSome then
    (s.modStore fun st => st.modLink Link.debounced).answer
  else s.answer

/-- INIT_STEP_RESPONSE: the card answers in an initialization step; the lock contact is sampled after the last one (R141). -/
def execInitStepResponse (r : InitResponse) (lock : Bool) (s : State) : Host.Outcome State Fault Refusal :=
  if s.store.link.state = .initializing then
    ((s.modPins fun p => { p with lock := lock }).modStore fun st => st.initAnswer r lock).answer
  else s.answer

/-- INIT_TIMER_EXPIRY: initialization has run for 1 s (R141, R154). -/
def execInitTimerExpiry (s : State) : Host.Outcome State Fault Refusal :=
  if s.store.link.state = .initializing then (s.modStore Store.initFails).answer else s.answer

/-- CARD_REMOVAL: the contact opens in a state other than ABSENT (R139, R153). -/
def execCardRemoval (s : State) : Host.Outcome State Fault Refusal :=
  if s.store.link.state = .absent then s.answer else (s.modPins fun p => { p with cd := false }).removeCard.answer

/-- PARK_TIMER_EXPIRY: a running park timer expires, and the link goes to PARKED (R151). -/
def execParkTimerExpiry (s : State) : Host.Outcome State Fault Refusal :=
  if s.store.link.state = .idle ∧ s.store.link.park.isSome then
    (s.modStore fun st => st.modLink fun k => { k with state := .parked, park := none }).answer
  else s.answer

/-- CARD_DETECT_RELEASE: the contact opens in ABSENT, which cancels a running debounce timer (R140). -/
def execCardDetectRelease (s : State) : Host.Outcome State Fault Refusal :=
  if s.store.link.state = .absent then
    ((s.modPins fun p => { p with cd := false }).modStore fun st => st.modLink fun k => { k with debounce := none }).answer
  else s.answer

end Sys2Proof.Machine
end

