-- ==== Sys2Proof/Machine/Images.lean ====
section
/-! DEFINITION. Meanings of the image manager's commands (R120, R121, R125, R130 to R132). -/

namespace Sys2Proof.Machine

/-- CATALOGUE_HEADER_READ_END: block 0 has been read (R120). -/
def execCatalogueHeaderReadEnd (s : State) : Host.Outcome State Fault Refusal :=
  match s.store.link.ended with
  | some (.catHeader, block) => ((s.modStore Store.takeEnded).catalogueRead block).answer
  | _ => s.answer

/-- DIRECTORY_READ_END: the directory has been read (R120, R121, R124, R137). -/
def execDirectoryReadEnd (s : State) : Host.Outcome State Fault Refusal :=
  match s.store.link.ended with
  | some (.directory, dir) => ((s.modStore Store.takeEnded).directoryRead dir).answer
  | _ => s.answer

/-- SAFE_POINT: an UNMOUNTING unit with no span, claim, DIRTY or WRITING line leaves the mounted states (R129, R130). -/
def execSafePoint (u : Drive) (s : State) : Host.Outcome State Fault Refusal :=
  if s.store.atSafePoint u then (s.passSafePoint u).answer else s.answer

/-- CHANGE_INTERVAL_EXPIRY: a unit in stage INTERVAL looks up its target (R131). -/
def execChangeIntervalExpiry (u : Drive) (s : State) : Host.Outcome State Fault Refusal :=
  if (s.store.unit u).mount.state = .changingInterval then (s.modStore fun st => st.lookup u).answer else s.answer

/-- IMAGE_HEADER_READ_END: the image header of a lookup has been read (R125, R131, R132). -/
def execImageHeaderReadEnd (s : State) : Host.Outcome State Fault Refusal :=
  match s.store.link.ended with
  | some (.imageHeader u, block) => ((s.modStore Store.takeEnded).imageHeaderRead u block).answer
  | _ => s.answer

end Sys2Proof.Machine
end

