-- ==== Sys2Proof/Machine/Keys.lean ====
section
/-! DEFINITION. Meanings of the panel's commands and of the drain that a restart waits for (R108, R171, R173, R176). -/

namespace Sys2Proof.Machine

/-- KEY_PRESS: a key that was up goes down and begins or joins a gesture (R171). -/
def execKeyPress (k : Key) (s : State) : Host.Outcome State Fault Refusal :=
  if s.mech.pins.keys.has k then s.answer
  else ((s.modPins fun p => { p with keys := p.keys.put k true }).modStore fun st => st.pressKey k).answer

/-- KEY_RELEASE: a key that was down goes up (R171). -/
def execKeyRelease (k : Key) (s : State) : Host.Outcome State Fault Refusal :=
  if s.mech.pins.keys.has k then
    ((s.modPins fun p => { p with keys := p.keys.put k false }).modStore fun st =>
      st.releaseKey k (s.mech.pins.keys.put k false)).answer
  else s.answer

/-- HOLD_TIMER_EXPIRY: a running hold timer expires, and the hold action of the gesture is taken (R171). -/
def execHoldTimerExpiry (s : State) : Host.Outcome State Fault Refusal :=
  match s.store.panel.gesture with
  | some g => if g.timer.isSome then (s.holdAction g).answer else s.answer
  | none => s.answer

/-- CANDIDATE_TIMER_EXPIRY: a running candidate timer expires, and the candidate becomes none (R173). -/
def execCandidateTimerExpiry (s : State) : Host.Outcome State Fault Refusal :=
  if s.store.panel.candTimer.isSome then (s.modStore Store.clearCandidate).answer else s.answer

/-- DRAIN_COMPLETE: a pending drain finds no DIRTY and no WRITING line, and the restart it waited for takes effect (R108, R136, R176). -/
def execDrainComplete (s : State) : Host.Outcome State Fault Refusal :=
  if s.store.wb.drain && s.store.drained then
    let s := s.modStore fun st => { st with wb := { st.wb with drain := false } }
    if s.store.panel.restart then s.restartPart.answer else s.answer
  else s.answer

end Sys2Proof.Machine
end

