-- ==== Sys2Proof/Machine/Dispatch.lean ====
section
/-! DEFINITION. One arm per command of the table, each a direct call of its meaning. -/

namespace Sys2Proof.Machine

/-- The effect of a command on everything but the queue. -/
def exec (i : Instr) (s : State) : Host.Outcome State Fault Refusal :=
  match i with
  | .powerOnReset => Sys2Proof.Machine.execPowerOnReset s
  | .byteTimeExpiry u => Sys2Proof.Machine.execByteTimeExpiry u s
  | .spinUpExpiry u => Sys2Proof.Machine.execSpinUpExpiry u s
  | .motorOn line => Sys2Proof.Machine.execMotorOn line s
  | .motorOff line => Sys2Proof.Machine.execMotorOff line s
  | .select line => Sys2Proof.Machine.execSelect line s
  | .deselect line => Sys2Proof.Machine.execDeselect line s
  | .stepPulse edge => Sys2Proof.Machine.execStepPulse edge s
  | .arrival u => Sys2Proof.Machine.execArrival u s
  | .sideChange => Sys2Proof.Machine.execSideChange s
  | .wgateAssert => Sys2Proof.Machine.execWgateAssert s
  | .wgateRelease => Sys2Proof.Machine.execWgateRelease s
  | .decodedByte edges => Sys2Proof.Machine.execDecodedByte edges s
  | .fluxViolation => Sys2Proof.Machine.execFluxViolation s
  | .demandTakesLine u => Sys2Proof.Machine.execDemandTakesLine u s
  | .headerTransactionEnd => Sys2Proof.Machine.execHeaderTransactionEnd s
  | .bodyTransactionEnd => Sys2Proof.Machine.execBodyTransactionEnd s
  | .lingerExpiry u => Sys2Proof.Machine.execLingerExpiry u s
  | .arbiterGrant => Sys2Proof.Machine.execArbiterGrant s
  | .readBlockOutcome r => Sys2Proof.Machine.execReadBlockOutcome r s
  | .writeBlockOutcome r => Sys2Proof.Machine.execWriteBlockOutcome r s
  | .stopBusyEnd => Sys2Proof.Machine.execStopBusyEnd s
  | .linkResponseTimeout => Sys2Proof.Machine.execLinkResponseTimeout s
  | .readDataTimeout => Sys2Proof.Machine.execReadDataTimeout s
  | .writeBusyTimeout => Sys2Proof.Machine.execWriteBusyTimeout s
  | .drainComplete => Sys2Proof.Machine.execDrainComplete s
  | .cardDetectAssert => Sys2Proof.Machine.execCardDetectAssert s
  | .debounceExpiry => Sys2Proof.Machine.execDebounceExpiry s
  | .initStepResponse r lock => Sys2Proof.Machine.execInitStepResponse r lock s
  | .initTimerExpiry => Sys2Proof.Machine.execInitTimerExpiry s
  | .cardRemoval => Sys2Proof.Machine.execCardRemoval s
  | .parkTimerExpiry => Sys2Proof.Machine.execParkTimerExpiry s
  | .catalogueHeaderReadEnd => Sys2Proof.Machine.execCatalogueHeaderReadEnd s
  | .directoryReadEnd => Sys2Proof.Machine.execDirectoryReadEnd s
  | .safePoint u => Sys2Proof.Machine.execSafePoint u s
  | .changeIntervalExpiry u => Sys2Proof.Machine.execChangeIntervalExpiry u s
  | .imageHeaderReadEnd => Sys2Proof.Machine.execImageHeaderReadEnd s
  | .keyPress k => Sys2Proof.Machine.execKeyPress k s
  | .keyRelease k => Sys2Proof.Machine.execKeyRelease k s
  | .holdTimerExpiry => Sys2Proof.Machine.execHoldTimerExpiry s
  | .candidateTimerExpiry => Sys2Proof.Machine.execCandidateTimerExpiry s
  | .cardDetectRelease => Sys2Proof.Machine.execCardDetectRelease s

end Sys2Proof.Machine
end

