-- ==== Sys2Proof/Machine/Clock.lean ====
section
/-! DEFINITION. What the part does on its own while no command waits: the internal event that has come due, in a fixed order, or else
one master clock in every running timer (log 2, log 5). -/

namespace Sys2Proof.Machine

/-! ### Internal events -/

/-- The step by which the requester takes a finished read. -/
def ReadJob.endStep : ReadJob → Instr
  | .fillHeader _ => .headerTransactionEnd
  | .fillBody _ => .bodyTransactionEnd
  | .catHeader => .catalogueHeaderReadEnd
  | .directory => .directoryReadEnd
  | .imageHeader _ => .imageHeaderReadEnd

/-- A waiting demand of the unit could take a line (R88). R88 re-examines the demands at every event that could give one of them a line,
but lists lines of the unit itself alone, and R97 speaks of the unit concerned: the model looks at both units whichever unit's line
became FREE, so a unit below its quota takes a line that the other unit freed (DESIGN CHOICE, log 45). -/
def Store.demandReady (s : Store) (u : Drive) : Bool :=
  (s.waitingDemands u).any (fun d => (s.lineOf d.key).isNone) && (s.chooseLine u).isSome

/-- The internal event that is due: a finished read, a safe point, a demand that can take a line, a complete drain, a grant
(R88, R90, R108, R129, R148). -/
def Store.internalEvent (s : Store) : Option Instr :=
  match s.link.ended with
  | some (job, _) => some job.endStep
  | none =>
    if s.atSafePoint .a then some (.safePoint .a)
    else if s.atSafePoint .b then some (.safePoint .b)
    else if s.demandReady .a then some (.demandTakesLine .a)
    else if s.demandReady .b then some (.demandTakesLine .b)
    else if s.wb.drain && s.drained then some .drainComplete
    else if s.grantDue then some .arbiterGrant
    else none

/-! ### Timers -/

/-- A timer's remaining time has run out. -/
def timedOut (t : Option Nat) : Bool := t == some 0

/-- A rotating timer's divider has counted a byte time (R28). -/
def Rotation.byteDue (r : Rotation) : Bool :=
  decide (r.state = .rotating) &&
    match r.params with
    | some q => decide (16 * q.d ≤ r.divider)
    | none => false

/-- The timer event of a unit that is due. -/
def State.unitEvent (s : State) (u : Drive) : Option Instr :=
  if (s.mech.unit u).rot.byteDue then some (.byteTimeExpiry u)
  else if timedOut (s.mech.unit u).rot.spinUp then some (.spinUpExpiry u)
  else if timedOut (s.mech.unit u).lines.settle then some (.arrival u)
  else if timedOut (s.store.unit u).linger then some (.lingerExpiry u)
  else if timedOut (s.store.unit u).mount.timer then some (.changeIntervalExpiry u)
  else none

/-- The timer event of the link or the panel that is due. -/
def Store.timerEvent (s : Store) : Option Instr :=
  if timedOut s.link.debounce then some .debounceExpiry
  else if timedOut s.link.initTimer then some .initTimerExpiry
  else if timedOut s.link.park then some .parkTimerExpiry
  else if timedOut s.panel.candTimer then some .candidateTimerExpiry
  else
    match s.panel.gesture with
    | some g => if timedOut g.timer then some .holdTimerExpiry else none
    | none => none

/-- The event that is due: an internal one, then a unit's timer, then another timer. -/
def State.dueEvent (s : State) : Option Instr :=
  match s.store.internalEvent with
  | some c => some c
  | none =>
    match s.unitEvent .a with
    | some c => some c
    | none =>
      match s.unitEvent .b with
      | some c => some c
      | none => s.store.timerEvent

/-! ### One master clock -/

/-- A running timer counts one clock down. -/
def countDown (t : Option Nat) : Option Nat := t.map fun n => n - 1

/-- One clock of a rotation timer: the spin-up timer, and the divider while ROTATING (R28, R31). -/
def Rotation.clock (r : Rotation) : Rotation :=
  { r with spinUp := countDown r.spinUp, divider := if r.state = .rotating then r.divider + 1 else r.divider }

/-- One clock of a unit's mechanism. -/
def UnitMech.clock (x : UnitMech) : UnitMech :=
  { rot := x.rot.clock, lines := { x.lines with settle := countDown x.lines.settle } }

/-- One clock of a unit's store. -/
def UnitStore.clock (x : UnitStore) : UnitStore :=
  { x with linger := countDown x.linger, mount := { x.mount with timer := countDown x.mount.timer } }

/-- One clock of the link. -/
def Link.clock (k : Link) : Link :=
  { k with debounce := countDown k.debounce, initTimer := countDown k.initTimer, park := countDown k.park }

/-- One clock of the panel: its timers, the refresh and the flashing of the display (R177, R183), and the end of the moment in which a
restart took effect (log 41). -/
def Panel.clock (p : Panel) : Panel :=
  { p with candTimer := countDown p.candTimer, gesture := p.gesture.map (fun g => { g with timer := countDown g.timer }),
           justReset := false, scan := (p.scan + 1) % Config.ms Config.refreshMs,
           flash := (p.flash + 1) % Config.ms Config.flashMs }

/-- One master clock in every running timer. -/
def State.clock (s : State) : State :=
  { s with
    mech := { s.mech with a := s.mech.a.clock, b := s.mech.b.clock },
    store := { s.store with a := s.store.a.clock, b := s.store.b.clock, link := s.store.link.clock,
                            panel := s.store.panel.clock } }

/-- What the part does while no command waits (log 2). -/
def State.idle (s : State) : Host.Outcome State Fault Refusal :=
  match s.dueEvent with
  | some c => exec c s
  | none => .next s.clock

end Sys2Proof.Machine
end

