-- ==== Sys2Proof/Machine/Outputs.lean ====
section
/-! DEFINITION. The outputs of the part as functions of its state: the status lines and RDATA (R29, R165 to R169, R183), the display and
the LEDs (R177, R179), and what the link does to the card (R110, R138, R143). -/

namespace Sys2Proof.Machine

/-! ### Status lines (R29, R165 to R169) -/

/-- A unit's index level (R29). -/
def State.indexLevel (s : State) (u : Drive) : Bool :=
  decide ((s.mech.unit u).rot.state = .rotating) &&
    match (s.mech.unit u).rot.params with
    | some q => decide ((s.mech.unit u).rot.p < q.w)
    | none => false

/-- A unit's TRACK0 level (R166). -/
def State.track0Level (s : State) (u : Drive) : Bool := decide ((s.mech.unit u).lines.head = 0)

/-- A unit's RDYCHG level (R169). -/
def State.rdychgLevel (s : State) (u : Drive) : Bool :=
  if s.store.images.config.changeMode then (s.mech.unit u).lines.latch
  else s.store.mounted u && decide ((s.mech.unit u).rot.state = .rotating)

/-- A status output: asserted while a selected unit's level is (R165). -/
def State.onCable (s : State) (level : Drive → Bool) : Bool :=
  (s.mech.a.lines.selected && level .a) || (s.mech.b.lines.selected && level .b)

/-- The INDEX output. -/
def State.indexOut (s : State) : Bool := s.onCable s.indexLevel

/-- The TRACK0 output. -/
def State.track0Out (s : State) : Bool := s.onCable s.track0Level

/-- The WPROT output. -/
def State.wprotOut (s : State) : Bool := s.onCable s.wprot

/-- The RDYCHG output. -/
def State.rdychgOut (s : State) : Bool := s.onCable s.rdychgLevel

/-- The RDATA output: a pulse of 12 master clocks at the start of each half-cell that holds a 1, while the source unit's byte time
carries flux (R41, R43, R46, R183). -/
def State.rdataOut (s : State) : Bool :=
  match s.mech.cursor.source with
  | none => false
  | some u =>
    match (s.mech.unit u).rot.params with
    | none => false
    | some q =>
      let n := (s.mech.unit u).rot.divider
      s.mech.cursor.emitting && decide (n < 16 * q.d) && s.mech.cursor.cells.getLsbD (15 - n / q.d) &&
        decide (n % q.d < Config.pulseClocks)

/-! ### Display and LEDs (R177 to R179) -/

/-- One place of the display. -/
structure Glyph where
  char : Char
  flashing : Bool
  /-- decimal point -/
  point : Bool
deriving DecidableEq, Repr

/-- The digit of a fault code (R178). -/
def FaultCode.digit : FaultCode → Char
  | .e1 => '1'
  | .e2 => '2'
  | .e3 => '3'
  | .e4 => '4'
  | .e5 => '5'
  | .e6 => '6'
  | .e7 => '7'
  | .e8 => '8'
  | .e9 => '9'

/-- A decimal digit. -/
def digitChar (n : Nat) : Char := Char.ofNat (48 + n % 10)

/-- A slot in two digits (R177). -/
def slotChars (n : Nat) : Char × Char := (digitChar (n / 10), digitChar n)

/-- A request in two characters: its slot, or two dashes for eject (R177). -/
def requestChars (r : Option MountReq) : Char × Char :=
  match r with
  | some (.slot n) => slotChars n
  | _ => ('-', '-')

/-- The letter of a unit. -/
def unitLetter : Drive → Char
  | .a => 'A'
  | .b => 'B'

/-- Characters 2 and 3, whether they flash, and whether the unit letter flashes (R177). -/
def Store.unitContent (s : Store) : (Char × Char) × Bool × Bool :=
  let m := (s.unit s.panel.addressed).mount
  match s.panel.candidate with
  | some n => (slotChars n, true, false)
  | none =>
    match m.state with
    | .held => (('H', 'd'), false, false)
    | .mounted => (slotChars (m.slot.getD 0), false, false)
    | .unmounting => (requestChars m.pending, false, true)
    | .changingInterval => (requestChars m.target, false, true)
    | .changingLookup => (requestChars m.target, false, true)
    | .empty => (('-', '-'), false, false)

/-- The three characters with their flashing (R177, R178). -/
def Store.displayChars (s : Store) : (Char × Bool) × (Char × Bool) × (Char × Bool) :=
  if s.panel.faultOn then
    (('E', false), (match s.panel.code with
      | some c => c.digit
      | none => ' ', false), (' ', false))
  else if s.panel.restart then (('r', false), ('S', false), ('t', false))
  else
    let x := s.unitContent
    ((unitLetter s.panel.addressed, x.2.2), (x.1.1, x.2.1), (x.1.2, x.2.1))

/-- The link's safe level (R138). -/
def Store.safeLevel (s : Store) : Bool := decide (s.link.state = .parked)

/-- The link's busy level (R138). -/
def Store.busyLevel (s : Store) : Bool := decide (s.link.state = .busy)

/-- The display with its points: panel protect in the first place, the park indication in the third (R177, R179). -/
def State.display (s : State) : Glyph × Glyph × Glyph :=
  let x := s.store.displayChars
  (⟨x.1.1, x.1.2, (s.mech.unit s.store.panel.addressed).lines.protect⟩, ⟨x.2.1.1, x.2.1.2, false⟩,
    ⟨x.2.2.1, x.2.2.2, s.store.safeLevel⟩)

/-! ### The display's pins (R183) -/

/-- The seven segments of a character, bit 0 segment a to bit 6 segment g: the usual seven-segment shapes (PRESUMED, log 31). -/
def segments (c : Char) : BitVec 7 :=
  match c with
  | '0' => 0x3F
  | '1' => 0x06
  | '2' => 0x5B
  | '3' => 0x4F
  | '4' => 0x66
  | '5' => 0x6D
  | '6' => 0x7D
  | '7' => 0x07
  | '8' => 0x7F
  | '9' => 0x6F
  | 'A' => 0x77
  | 'B' => 0x7C
  | 'E' => 0x79
  | 'H' => 0x76
  | 'd' => 0x5E
  | 'r' => 0x50
  | 'S' => 0x6D
  | 't' => 0x78
  | '-' => 0x40
  | _ => 0

/-- The character that the multiplex drives now: each has a third of the 6 ms (R183; log 31). -/
def Panel.place (p : Panel) : Nat := p.scan / (Config.ms Config.refreshMs / 3)

/-- Flashing characters are shown: the first half of the 500 ms (R177; log 31). -/
def Panel.shown (p : Panel) : Bool := decide (p.flash < Config.ms Config.flashMs / 2)

/-- DSEG0..7 for one place: the seven segments, dark while a flashing character is dark, and the decimal point, which is driven whatever
the character shows (R177, R183). -/
def Glyph.drive (g : Glyph) (shown : Bool) : BitVec 8 :=
  (if g.flashing && !shown then 0 else BitVec.setWidth 8 (segments g.char)) ||| (if g.point then 0x80 else 0)

/-- The glyph that the multiplex drives now (R183). -/
def State.drivenGlyph (s : State) : Glyph :=
  match s.store.panel.place with
  | 0 => s.display.1
  | 1 => s.display.2.1
  | _ => s.display.2.2

/-- The outputs DDIG0..2: the one character that is selected (R183). -/
def State.ddigOut (s : State) : BitVec 3 := 1#3 <<< s.store.panel.place

/-- The outputs DSEG0..7 (R183). -/
def State.dsegOut (s : State) : BitVec 8 := s.drivenGlyph.drive s.store.panel.shown

/-! ### LEDs (R179) -/

/-- A unit's LED (R179). -/
def State.unitLed (s : State) (u : Drive) : Bool :=
  s.store.images.config.enabled u && (s.mech.unit u).lines.selected && (s.mech.unit u).lines.motorIn

/-- The card LED (R179). -/
def State.cardLed (s : State) : Bool := s.store.busyLevel

/-! ### The card side (R138, R143) -/

/-- The link clock (R138). -/
inductive LinkClock where
  | stopped
  | slow375kHz
  | fast12MHz
deriving DecidableEq, Repr

/-- The link clock in a state (R138). -/
def LinkState.clock : LinkState → LinkClock
  | .absent => .stopped
  | .initializing => .slow375kHz
  | .idle => .fast12MHz
  | .busy => .fast12MHz
  | .parked => .stopped
  | .fault => .stopped

/-- The block that a write in transfer sends: its card block, its 512 bytes and its link check. A record block is read from its line
while the transfer proceeds (R110, R114, R133, R143; log 17). -/
def Store.outgoingBlock (s : Store) : Option (Nat × List Byte × Word16) :=
  match s.link.current with
  | some (.write t) =>
    let bytes := match t.job with
      | .record =>
        match s.passLine, s.wb.cursor with
        | some (_, e, r), some b => passBlock s.wb.truncForm e.slotBytes r b
        | _, _ => fitTo Config.blockBytes []
      | _ => t.data
    if t.phase = .transfer then some (t.block, bytes, linkCheck bytes) else none
  | _ => none

end Sys2Proof.Machine
end

