-- ==== Sys2Proof/Safety.lean ====
section
/-! DEFINITION. What holds of the part at all times, in the terms the statements use. -/

namespace Sys2Proof.Machine

/-- A head position lies within the cylinders that the configuration gives (R159). -/
def UnitLines.headOk (c : WorkConfig) (l : UnitLines) : Prop := l.head < c.cphys

/-- The number of cylinders is 40 to 84 and both heads lie within it (R123, R159). -/
def State.HeadsOk (s : State) : Prop :=
  40 ≤ s.store.images.config.cphys ∧ s.store.images.config.cphys ≤ 84 ∧
    s.mech.a.lines.headOk s.store.images.config ∧ s.mech.b.lines.headOk s.store.images.config

/-- A rotation timer's position lies on its track and its divider within a byte time; both are 0 while it does not rotate; a timer that
spins up or rotates has parameters (R23, R24, R28). -/
def Rotation.Ok (r : Rotation) : Prop :=
  (∀ q, r.params = some q → 0 < q.t) ∧
    match r.state with
    | .stopped => r.p = 0 ∧ r.divider = 0
    | .spinning => r.p = 0 ∧ r.divider = 0 ∧ r.params.isSome = true
    | .rotating => ∃ q, r.params = some q ∧ r.p < q.t ∧ r.divider ≤ 16 * q.d

/-- Both rotation timers are on their tracks (R23, R28). -/
def State.RotationsOk (s : State) : Prop := s.mech.a.rot.Ok ∧ s.mech.b.rot.Ok

/-- The link is BUSY exactly while it holds a transaction (R138). -/
def State.BusyOk (s : State) : Prop := s.store.link.state = .busy ↔ s.store.link.current.isSome = true

/-- The park test as R151 lists it, with a finished read that its requester has not yet taken counted as a request (log 6). -/
def State.ParkTestHolds (s : State) : Prop :=
  s.store.link.state = .idle ∧ s.store.link.demandQ = [] ∧ s.store.link.catQ = [] ∧ s.store.link.prefetchQ = [] ∧
    s.store.link.ended = none ∧ s.store.wb.queue = [] ∧ s.store.wb.current = none ∧ (∀ l, (s.store.line l).state ≠ .dirty) ∧
    s.mech.a.lines.motorIn = false ∧ (s.store.images.config.enableB = true → s.mech.b.lines.motorIn = false)

/-- Two stores are alike but for the park timer, which the park test after every command may move (R151). -/
def Store.SameButPark (s t : Store) : Prop := ∃ pk : Option Nat, t = { s with link := { s.link with park := pk } }

/-- What a byte boundary of unit `u`, the source unit, that leads to position `p` of a track of `len` byte times makes of the emit
cursor and of the store: the byte that the presented record holds at `p`, or silence (R41 to R43, R47, R48); and the presentation that it
reports at an index event, after silence, and for a line that was not the source line, which moves that line to the most recent end of its
owner's order (R50, R83). Both recency orders are otherwise as they were, and so is the rest of the store. -/
def State.Sends (s t : State) (u : Drive) (len p : Nat) (index : Bool) : Prop :=
  let track := (s.store.unit u).mount.trackAt (s.mech.unit u).lines.head (s.mech.unit u).lines.side
  let c := s.mech.cursor
  (∀ (k : TrackKey) (l : Fin 8) (r : TrackRecord), s.mech.pins.wgate = false → track = some k → s.store.residentOf k = some l →
    (s.store.line l).record = some r → r.blank = false →
    let cells := emitCells r.enc (c.emitting && c.prev) (recordByte s.store.marks len r p)
    t.mech.cursor = { source := some u, line := some l, emitting := true, prev := cells.getLsbD 0, cells := cells } ∧
    (∀ o, (s.store.line l).owner = some o → index = true ∨ c.emitting = false ∨ c.line ≠ some l →
      (s.store.setUnit o
        { s.store.unit o with
          recency := (s.store.unit o).recency.filter (fun x => decide (x ≠ l)) ++ [l] }).SameButPark t.store) ∧
    ((s.store.line l).owner = none ∨ (index = false ∧ c.emitting = true ∧ c.line = some l) → s.store.SameButPark t.store)) ∧
  ((s.mech.pins.wgate = true ∨
      ∀ (k : TrackKey) (l : Fin 8) (r : TrackRecord), track = some k → s.store.residentOf k = some l →
        (s.store.line l).record = some r → r.blank = true) →
    t.mech.cursor =
        { source := some u, line := track.bind s.store.residentOf, emitting := false, prev := false, cells := 0 } ∧
      s.store.SameButPark t.store)

/-- What the installation of a valid catalogue makes of a state (R39, R120, R124, R136, R137, R156, R158, R172, R173): table, clamped
configuration and mark table are those of the copy; the resume slots are bytes 16 and 17 of it, none from 100 on; no head stands above the
new last cylinder; selected and motor-input fields follow the lines as newly mapped; the panel has no candidate and addresses no disabled
unit; and an enabled EMPTY unit on an available card is sent the request that waits, or else its resume slot, while every other mount
context stays. That a request that waits goes first at start-up too is the model's choice (DESIGN CHOICE, log 46), and so is that the
resume slots are those of the copy as it was read, whatever a unit has ejected since (DESIGN CHOICE, log 40). -/
def State.Installed (s t : State) (copy : List Byte) (table : List Entry) : Prop :=
  let config := clampConfig copy
  let slotOf := fun b : Byte => if b.toNat ≤ 99 then some b.toNat else none
  t.pending = s.pending ∧ t.mech.pins = s.mech.pins ∧ t.store.link.ended = none ∧
  t.store.images =
    { s.store.images with config := config, catalogue := some copy, reading := false, table := table } ∧
  t.store.marks = rebuildMarks config.overrides ∧ t.store.panel.candidate = none ∧ t.store.panel.candTimer = none ∧
  t.store.a.resume = slotOf (byteAt copy 16) ∧ t.store.b.resume = slotOf (byteAt copy 17) ∧
  (config.enableB = false → t.store.panel.addressed = .a ∧ t.mech.b.lines.selected = false) ∧
  ∀ u : Drive,
    (t.mech.unit u).lines.head = min (s.mech.unit u).lines.head (config.cphys - 1) ∧
    (t.mech.unit u).lines.selected = selectLevel config s.mech.pins u ∧
    (t.mech.unit u).lines.motorIn = motorLevel config s.mech.pins u ∧
    let mount := (s.store.unit u).mount
    let offered := mount.state = .empty ∧ config.enabled u = true ∧ s.store.link.available = true
    (¬offered → (t.store.unit u).mount = mount) ∧
    (offered → (∀ l, (s.store.line l).owner = some u → (s.store.line l).state ≠ .held) →
      (t.store.unit u).mount =
        match mount.pending.or ((t.store.unit u).resume.map .slot) with
        | some request =>
          { Mount.reset with state := .changingInterval, target := some request, timer := some (24000 * config.change) }
        | none => mount)

/-- The blocks that card loss adds to the dirty set of a line: the block of the current line whose transfer began and is not confirmed,
and block 0 where a present-map write was owed or in progress (R99, R119). -/
def Store.LossAdds (s : Store) (l : Fin 8) (b : Nat) : Prop :=
  s.wb.current = some l ∧
    ((∃ t, s.link.current = some (.write t) ∧ t.job = .record ∧ t.phase ≠ .closeStop ∧ s.wb.cursor = some b) ∨
      (s.wb.owed = true ∧ b = 0))

/-- What card loss leaves of a line: modified data is HELD with its record, its dirty set and what is added to that, everything else is
FREE (R99). -/
def Line.lost (added : Nat → Prop) (before after : Line) : Prop :=
  if before.state = .dirty ∨ before.state = .writing ∨ before.state = .held then
    after.state = .held ∧ after.record = before.record ∧ after.owner = before.owner ∧ after.key = before.key ∧
      ∀ b, b ∈ after.dirty ↔ b ∈ before.dirty ∨ added b
  else after.state = .free

/-- A unit with no image mounted has its change latch set (R168). -/
def State.LatchesOk (s : State) : Prop := ∀ u, s.store.mounted u = false → (s.mech.unit u).lines.latch = true

/-- What an edit that wrote the bytes at the offsets `wrote` of the record string does to the lines (R18, R95): the blocks that hold such a
byte join the dirty set of line `l`, which is DIRTY if it was CLEAN; on a CLEAN line of a scratch track the scratch-modified flag is set
instead. An edit that wrote nothing changes none of these, and no edit changes another line. -/
def Store.Wrote (s t : Store) (l : Fin 8) (wrote : Nat → Prop) : Prop :=
  let flagged := (s.line l).state = .clean ∧ s.lineScratch l = true
  (∀ b, b ∈ (t.line l).dirty ↔ b ∈ (s.line l).dirty ∨ (¬flagged ∧ ∃ o, wrote o ∧ o / 512 = b)) ∧
    ((t.line l).scratch = true ↔ (s.line l).scratch = true ∨ (flagged ∧ ∃ o, wrote o)) ∧
    ((∃ o, wrote o) → (s.line l).state = .clean → s.lineScratch l = false → (t.line l).state = .dirty) ∧
    ((¬∃ o, wrote o) ∨ (s.line l).state ≠ .clean ∨ s.lineScratch l = true → (t.line l).state = (s.line l).state) ∧
    ∀ m, m ≠ l → t.line m = s.line m

/-- The bytes of the descriptor of the sector at place `i` of a record string (R17). -/
def InDescriptor (i o : Nat) : Prop := 64 + 16 * i ≤ o ∧ o < 64 + 16 * i + 16

/-- A pass is in progress over line `l` of unit `u`, which holds record `r` under `key` and has entry copy `e` (R109). -/
def Store.PassAt (s : Store) (l : Fin 8) (u : Drive) (e : Entry) (r : TrackRecord) (key : TrackKey) : Prop :=
  s.wb.current = some l ∧ (s.line l).owner = some u ∧ (s.unit u).mount.entry = some e ∧ (s.line l).record = some r ∧
    (s.line l).key = some key

/-- Block `b` is the next block of a pass (R110, R111): the smallest member of the dirty set that lies above the cursor, any member where
the cursor is none, and below both the string extent and the slot's blocks. Members at or below the cursor wait for a later pass. -/
def NextBlockIs (cursor : Option Nat) (extent slotBlocks : Nat) (dirty : List Nat) (b : Nat) : Prop :=
  b ∈ dirty ∧ b < extent ∧ b < slotBlocks ∧ (∀ c, cursor = some c → c < b) ∧
    ∀ x ∈ dirty, (∀ c, cursor = some c → c < x) → b ≤ x

/-- A command that ends an attempt of a read with a block that is not OK (R143): a card error, no response, no data, or a block of 512
bytes whose link check does not match. -/
def FailsReadBlock (c : Instr) : Prop :=
  c = .readBlockOutcome .cardError ∨ c = .linkResponseTimeout ∨ c = .readDataTimeout ∨
    ∃ (data : List Byte) (check : Word16), data.length = 512 ∧ crcOf 0 data ≠ check ∧ c = .readBlockOutcome (.block data check)

/-- At most one line outside FREE holds a key (R81); every queued line is DIRTY and stands in the queue once (R103); the WRITING line is
the current line of the pass (R109); and the demands of a unit differ in age and are older than the next one (R147). -/
def Store.CacheOk (s : Store) : Prop :=
  (∀ (l m : Fin 8) (k : TrackKey), (s.line l).state ≠ .free → (s.line m).state ≠ .free → (s.line l).key = some k →
    (s.line m).key = some k → l = m) ∧
  s.wb.queue.Nodup ∧ (∀ l ∈ s.wb.queue, (s.line l).state = .dirty) ∧
  (∀ l, (s.line l).state = .writing ↔ s.wb.current = some l) ∧
  ∀ u, ((s.unit u).demands.map Demand.age).Nodup ∧ ∀ d ∈ (s.unit u).demands, d.age < s.nextAge

end Sys2Proof.Machine
end

