-- ==== Sys2Proof/Certificates/Slice0/Obligations.lean ====
section
/-! DEFINITION. What is to be proved of the model. Each statement's docstring names the rules of spec/ it comes from, or says that it
states a choice of the model and names its log entry. -/

open Sys2Proof Sys2Proof.Machine

/-! ### The whole part -/

/-- A step with a command at the front of the queue is that command's meaning on the state with the rest of the queue. -/
def Obligations.StepRunsFrontCommand : Prop :=
  ∀ (c : Instr) (s : State), step { s with pending := c :: s.pending } = exec c s

/-- Every command completes in every state and leaves the queue alone: the part never stops (log 1). -/
def Obligations.EveryCommandCompletes : Prop :=
  ∀ (c : Instr) (s : State), ∃ t, exec c s = .next t ∧ t.pending = s.pending

/-- R159: each unit's head position lies in 0..Cphys - 1 at all times, and Cphys lies in 40..84 (R123). Every step keeps it. -/
def Obligations.HeadsStayOnCylinders : Prop := ∀ s t : State, s.HeadsOk → step s = .next t → t.HeadsOk

/-- R23, R28: while a unit rotates, p lies in 0..T - 1 and the divider within a byte time; otherwise both are 0. Every step keeps
it. -/
def Obligations.RotationsStayOnTrack : Prop := ∀ s t : State, s.RotationsOk → step s = .next t → t.RotationsOk

/-- R138: the link is BUSY exactly while a transaction is in progress. Every step keeps it. -/
def Obligations.BusyLinkHoldsTransaction : Prop := ∀ s t : State, s.BusyOk → step s = .next t → t.BusyOk

/-- R168: a unit with no image mounted has its change latch set. Every step keeps it. -/
def Obligations.UnmountedUnitKeepsLatch : Prop := ∀ s t : State, s.LatchesOk → step s = .next t → t.LatchesOk

/-- R81, R103, R109, R147: at most one line outside FREE holds a key, every queued line is DIRTY and stands in the queue once, the WRITING
line is the current line of the pass, and the demands of a unit differ in age and are older than the next one. Every step keeps it. -/
def Obligations.CacheKeepsItsRules : Prop := ∀ s t : State, s.store.CacheOk → step s = .next t → t.store.CacheOk

/-- The state after reset meets the five invariants (R23, R81, R103, R138, R155, R168). -/
def Obligations.ResetMeetsInvariants : Prop :=
  State.reset.HeadsOk ∧ State.reset.RotationsOk ∧ State.reset.BusyOk ∧ State.reset.LatchesOk ∧ State.reset.store.CacheOk

/-- R37, R39, R124, R142: the mark table and the working configuration change only where a catalogue is installed and at a reset, and the
remembered identity only at a card return and at a reset. -/
def Obligations.TablesChangeOnlyAtTheirEvents : Prop :=
  ∀ (c : Instr) (s t : State), exec c s = .next t →
    (c ≠ .powerOnReset → c ≠ .drainComplete → c ≠ .catalogueHeaderReadEnd → c ≠ .directoryReadEnd →
      t.store.marks = s.store.marks ∧ t.store.images.config = s.store.images.config) ∧
    (c ≠ .powerOnReset → c ≠ .drainComplete → (∀ r lock, c ≠ .initStepResponse r lock) →
      t.store.link.remembered = s.store.link.remembered)

/-- R136, R183: POWER_ON_RESET gives every state its reset value; a card in the socket starts the debounce timer; the keys that are down
are ignored (R138, R140, R155, R170). That the inputs keep their levels, and that a unit A whose select line stands asserted is selected
at once and takes the SIDE level where R155 gives side 0, are the model's choices (DESIGN CHOICE, log 4). So are three values that
Store.reset gives: ages are counted from 0 (log 23), the cleared span context names unit A (log 38), and the refresh and the flashing of
the display begin at phase 0 (log 31). -/
def Obligations.PowerOnResetRestoresStart : Prop :=
  ∀ s : State, exec .powerOnReset s = .next
    { mech :=
        { pins := s.mech.pins,
          a := ⟨Rotation.reset,
            ⟨s.mech.pins.sel0, s.mech.pins.motor0, 0, s.mech.pins.sel0 && s.mech.pins.side, none, true, false⟩⟩,
          b := ⟨Rotation.reset, UnitLines.reset⟩,
          cursor := { Cursor.reset with source := if s.mech.pins.sel0 then some .a else none } },
      store :=
        { Store.reset with
          link := { Link.reset with debounce := if s.mech.pins.cd then some 1200000 else none },
          panel := { Panel.reset with ignored := s.mech.pins.keys } },
      pending := s.pending }

/-! ### Rotation (02) -/

/-- R25: D = 24,000,000 / (2 x rate) exactly, and a byte time is 16 x D master clocks. -/
def Obligations.HalfCellDividerRule : Prop :=
  (∀ e : Entry, e.format ≤ 5 →
    2 * (rotParams e).rate * (rotParams e).d = 24000000 ∧
    [(125000, 96), (150000, 80), (250000, 48), (300000, 40), (500000, 24)].contains ((rotParams e).rate, (rotParams e).d)) ∧
  (∀ e f : Entry, (rotParams e).rate = (rotParams f).rate → (rotParams e).d = (rotParams f).d) ∧
  (∀ (r : Rotation) (q : RotParams), r.state = .rotating → r.params = some q → (r.byteDue = true ↔ 16 * q.d ≤ r.divider))

/-- R26: T = floor(rate x 15 / (2 x rpm)) with rpm clamped to 250..400; it lies in 2,343..15,000, and it is the T that the layout check
takes. -/
def Obligations.TrackLengthRule : Prop :=
  ∀ e : Entry, e.format ≤ 5 →
    let rpm := if e.rpm < 250 then 250 else if 400 < e.rpm then 400 else e.rpm
    (rotParams e).t * (2 * rpm) ≤ (rotParams e).rate * 15 ∧ (rotParams e).rate * 15 < ((rotParams e).t + 1) * (2 * rpm) ∧
      2343 ≤ (rotParams e).t ∧ (rotParams e).t ≤ 15000 ∧ e.trackLen = (rotParams e).t

/-- R27: W = ceil(rate / 4000); the index level is asserted for the first W byte times of a revolution, never shorter than 2 ms, whatever
the rpm, and less than a whole revolution. -/
def Obligations.IndexWidthRule : Prop :=
  (∀ e : Entry, e.format ≤ 5 →
    (rotParams e).rate ≤ 4000 * (rotParams e).w ∧ 4000 * (rotParams e).w < (rotParams e).rate + 4000 ∧
      48000 ≤ (rotParams e).w * (16 * (rotParams e).d) ∧ (rotParams e).w * (16 * (rotParams e).d) ≤ 49152 ∧
      (rotParams e).w < (rotParams e).t ∧
      [(125000, 32), (150000, 38), (250000, 63), (300000, 75), (500000, 125)].contains ((rotParams e).rate, (rotParams e).w)) ∧
  (∀ (e : Entry) (rpm : Nat), (rotParams { e with rpm := rpm }).w = (rotParams e).w) ∧
  (∀ (s : State) (u : Drive) (q : RotParams), (s.mech.unit u).rot.state = .rotating → (s.mech.unit u).rot.params = some q →
    (s.indexLevel u = true ↔ (s.mech.unit u).rot.p < q.w))

/-- R28, R56: a byte time's expiry advances p by one, or returns it to 0 with the index event, which ends a span bound to the unit at T;
the divider returns to 0. If the unit is the source unit, the new byte time carries the byte that the presented record holds at the new
position, or is silent (R47, R48, R50, R51); a presentation moves its one line in its owner's recency order. If it is not, the cursor, both
recency orders and the rest of the store stay as they were. What the end of a span does is said in WgateReleaseEndsSpan. -/
def Obligations.ByteTimeExpiryAdvances : Prop :=
  ∀ (u : Drive) (s : State) (q : RotParams),
    (s.mech.unit u).rot.state = .rotating → (s.mech.unit u).rot.params = some q →
    let index := decide (q.t ≤ (s.mech.unit u).rot.p + 1)
    let p := if index then 0 else (s.mech.unit u).rot.p + 1
    let before : State := if index then { s with store := s.store.endSpanOf u q.t } else s
    ∃ t, exec (.byteTimeExpiry u) s = .next t ∧
      (t.mech.unit u).rot = { (s.mech.unit u).rot with p := p, divider := 0 } ∧
      (t.mech.unit u).lines = (s.mech.unit u).lines ∧ t.mech.unit u.other = s.mech.unit u.other ∧
      t.mech.pins = s.mech.pins ∧ t.pending = s.pending ∧
      (s.mech.cursor.source ≠ some u → t.mech.cursor = s.mech.cursor ∧ before.store.SameButPark t.store) ∧
      (s.mech.cursor.source = some u → before.Sends t u q.t p index) ∧
      (index = true → s.store.spanBound u = true → t.store.decoder.state = .draining)

/-- R32, R51: the expiry of the spin-up timer starts rotation at p = 0 with the divider at 0. If the unit is the source unit, the encoder
begins at position 0 (R47, R48); if it is not, the store stays as it was. -/
def Obligations.SpinUpExpiryStartsRotation : Prop :=
  ∀ (u : Drive) (s : State), (s.mech.unit u).rot.state = .spinning →
    ∃ t, exec (.spinUpExpiry u) s = .next t ∧
      (t.mech.unit u).rot = { (s.mech.unit u).rot with state := .rotating, spinUp := none, p := 0, divider := 0 } ∧
      (t.mech.unit u).lines = (s.mech.unit u).lines ∧ t.mech.unit u.other = s.mech.unit u.other ∧
      t.mech.pins = s.mech.pins ∧ t.pending = s.pending ∧
      (s.mech.cursor.source ≠ some u → t.mech.cursor = s.mech.cursor ∧ s.store.SameButPark t.store) ∧
      (∀ q, (s.mech.unit u).rot.params = some q → s.mech.cursor.source = some u → s.Sends t u q.t 0 false)

/-- R31, R32, R152, R158: a motor line's assertion that reaches one unit asserts its motor input, wakes a parked link if the unit is
enabled, and starts the spin-up of a mounted unit; an unmounted unit's timer stays as it is. With a spin-up time of 0 the mounted unit
rotates from p = 0 at once, and as the source unit begins to send (State.Sends). Under the shared mapping the assertion reaches both units,
and each does so for itself; only their order, unit A first, is the model's choice (DESIGN CHOICE, log 10). -/
def Obligations.MotorOnStartsSpinUp : Prop :=
  ∀ (line : CableLine) (s : State),
    let on := fun u : Drive =>
      motorLevel s.store.images.config (s.mech.pins.setMotor line true) u = true ∧ (s.mech.unit u).lines.motorIn = false ∧
        (s.store.mounted u = true → (s.mech.unit u).rot.state = .stopped ∧ (s.mech.unit u).rot.params.isSome = true)
    let wakes := fun u : Drive => s.store.images.config.enabled u = true ∧ s.store.link.state = .parked
    let woken := { s.store with link := { s.store.link with state := .idle } }
    let spinning := fun u : Drive =>
      (⟨if s.store.mounted u then
          { (s.mech.unit u).rot with state := .spinning, spinUp := some (24000 * s.store.images.config.spinUp) }
        else (s.mech.unit u).rot,
        { (s.mech.unit u).lines with motorIn := true }⟩ : UnitMech)
    let started := fun u : Drive =>
      if s.store.mounted u then { (s.mech.unit u).rot with state := .rotating, spinUp := none, p := 0, divider := 0 }
      else (s.mech.unit u).rot
    (∀ u : Drive, on u →
      motorLevel s.store.images.config (s.mech.pins.setMotor line true) u.other = (s.mech.unit u.other).lines.motorIn →
      let before : State :=
        { s with mech := { s.mech with pins := s.mech.pins.setMotor line true }, store := if wakes u then woken else s.store }
      (0 < s.store.images.config.spinUp →
        exec (.motorOn line) s = .next (State.settlePark { before with mech := before.mech.setUnit u (spinning u) })) ∧
      (s.store.images.config.spinUp = 0 →
        ∃ t, exec (.motorOn line) s = .next t ∧ t.pending = s.pending ∧ t.mech.pins = before.mech.pins ∧
          (t.mech.unit u).rot = started u ∧ (t.mech.unit u).lines = { (s.mech.unit u).lines with motorIn := true } ∧
          t.mech.unit u.other = s.mech.unit u.other ∧
          (s.mech.cursor.source ≠ some u ∨ s.store.mounted u = false →
            t.mech.cursor = s.mech.cursor ∧ before.store.SameButPark t.store) ∧
          (∀ q, (s.mech.unit u).rot.params = some q → s.mech.cursor.source = some u → s.store.mounted u = true →
            before.Sends t u q.t 0 false))) ∧
    (on .a → on .b →
      (0 < s.store.images.config.spinUp →
        exec (.motorOn line) s = .next (State.settlePark
          { s with
            mech := { s.mech with pins := s.mech.pins.setMotor line true, a := spinning .a, b := spinning .b },
            store := if wakes .a ∨ wakes .b then woken else s.store })) ∧
      (s.store.images.config.spinUp = 0 →
        ∃ t, exec (.motorOn line) s = .next t ∧ t.pending = s.pending ∧ t.mech.pins = s.mech.pins.setMotor line true ∧
          ∀ u, (t.mech.unit u).rot = started u ∧ (t.mech.unit u).lines = { (s.mech.unit u).lines with motorIn := true }))

/-- R33, R56, R158: a motor line's release that reaches one unit stops its timer, cancels its spin-up, returns p and the divider to 0, keeps
its parameters and silences RDATA if it is the source unit; a span bound to the unit ends at the p before the stop, and the decoder drains
(WgateReleaseEndsSpan says what the end does). Under the shared mapping the release reaches both units. That the cursor keeps its source
line while the source unit is stopped is the model's choice (DESIGN CHOICE, log 37), and so is the order of the two units (log 10). -/
def Obligations.MotorOffStopsRotation : Prop :=
  ∀ (line : CableLine) (s : State),
    let off := fun u : Drive =>
      motorLevel s.store.images.config (s.mech.pins.setMotor line false) u = false ∧ (s.mech.unit u).lines.motorIn = true
    let stopped := fun u : Drive =>
      (⟨{ (s.mech.unit u).rot with state := .stopped, spinUp := none, p := 0, divider := 0 },
        { (s.mech.unit u).lines with motorIn := false }⟩ : UnitMech)
    let silent : Cursor := { s.mech.cursor with emitting := false, prev := false, cells := 0 }
    (∀ u : Drive, off u →
      motorLevel s.store.images.config (s.mech.pins.setMotor line false) u.other = (s.mech.unit u.other).lines.motorIn →
      exec (.motorOff line) s = .next (State.settlePark
        { s with
          mech := { s.mech with
              pins := s.mech.pins.setMotor line false,
              cursor := if s.mech.cursor.source = some u then silent else s.mech.cursor }.setUnit u (stopped u),
          store := s.store.endSpanOf u (s.mech.unit u).rot.p })) ∧
    (off .a → off .b →
      exec (.motorOff line) s = .next (State.settlePark
        { s with
          mech :=
            { pins := s.mech.pins.setMotor line false, a := stopped .a, b := stopped .b,
              cursor := if s.mech.cursor.source.isSome then silent else s.mech.cursor },
          store := (s.store.endSpanOf .a s.mech.a.rot.p).endSpanOf .b s.mech.b.rot.p }))

/-! ### Cable (09) -/

/-- R46, R49, R156, R157: a select line's assertion that reaches one unit selects it and gives it the SIDE level; unit A is the source unit
when both are selected. Nothing else changes. That a change of source unit silences RDATA at once, also where A takes over from B while a
byte of B is being sent, is the model's choice (DESIGN CHOICE, log 9). -/
def Obligations.SelectTakesSideAndSource : Prop :=
  ∀ (line : CableLine) (u : Drive) (s : State),
    selectLevel s.store.images.config (s.mech.pins.setSel line true) u = true → (s.mech.unit u).lines.selected = false →
    selectLevel s.store.images.config (s.mech.pins.setSel line true) u.other = (s.mech.unit u.other).lines.selected →
    let source : Option Drive := if u = .b ∧ s.mech.a.lines.selected = false then some .b else some .a
    exec (.select line) s = .next (State.settlePark
      { s with
        mech := { s.mech with
            pins := s.mech.pins.setSel line true,
            cursor := if s.mech.cursor.source = source then s.mech.cursor
              else { source := source, line := none, emitting := false, prev := false, cells := 0 } }.setUnit u
          { s.mech.unit u with lines := { (s.mech.unit u).lines with selected := true, side := s.mech.pins.side } } })

/-- R46, R49, R56, R156, R157: a select line's release that reaches one unit deselects it; it keeps its head, side, settle timer and change
latch, and the other unit becomes the source unit if it is still selected. A span bound to the unit ends at its p, and the decoder drains
(WgateReleaseEndsSpan says what the end does). That a change of source unit to another one silences RDATA at once is the model's choice
(DESIGN CHOICE, log 9). -/
def Obligations.DeselectKeepsUnit : Prop :=
  ∀ (line : CableLine) (u : Drive) (s : State),
    selectLevel s.store.images.config (s.mech.pins.setSel line false) u = false → (s.mech.unit u).lines.selected = true →
    selectLevel s.store.images.config (s.mech.pins.setSel line false) u.other = (s.mech.unit u.other).lines.selected →
    let source : Option Drive := if (s.mech.unit u.other).lines.selected then some u.other else none
    exec (.deselect line) s = .next (State.settlePark
      { s with
        mech := { s.mech with
            pins := s.mech.pins.setSel line false,
            cursor := if s.mech.cursor.source = source then s.mech.cursor
              else { source := source, line := none, emitting := false, prev := false, cells := 0 } }.setUnit u
          { s.mech.unit u with lines := { (s.mech.unit u).lines with selected := false } },
        store := s.store.endSpanOf u (s.mech.unit u).rot.p })

/-- R87, R94, R97, R159, R160, R162, R168: a step pulse that one selected unit accepts moves its head by one within 0..Cphys - 1, restarts
its settle timer, clears its change latch if it is mounted, and sets its prefetch direction. Its PREFETCH demands whose header transaction
has not started are cancelled: where none of their keys is in the pin set, they leave the list, the FILLING lines they held are FREE and
their requests are withdrawn, and no other line changes; a cancelled demand whose key is in the pin set has a line or a demand again
afterwards. With no demand of the unit nothing else changes. An assertion of STEP shorter than 1 us moves nothing (R183). -/
def Obligations.StepPulseMovesHead : Prop :=
  (∀ (dir : Bool) (width : Nat) (u : Drive) (s : State), 1000 ≤ width →
    (s.mech.unit u).lines.selected = true → s.store.spanBound u = false → (s.mech.unit u.other).lines.selected = false →
    let ended := fun d : Demand => d.cls = .prefetching ∧ d.stage ≠ .inFlight
    let gone := fun l : Fin 8 => ∃ d ∈ (s.store.unit u).demands, ended d ∧ d.line = some l ∧ (s.store.line l).state = .filling
    ∃ t, exec (.stepPulse ⟨dir, width⟩) s = .next t ∧ t.pending = s.pending ∧
      t.mech = { s.mech with pins := { s.mech.pins with dir := dir } }.setUnit u
        { s.mech.unit u with
          lines := { (s.mech.unit u).lines with
            head := if dir then
                (if (s.mech.unit u).lines.head + 1 < s.store.images.config.cphys then (s.mech.unit u).lines.head + 1
                  else (s.mech.unit u).lines.head)
              else (s.mech.unit u).lines.head - 1,
            settle := some (24000 * s.store.images.config.settle),
            latch := (s.mech.unit u).lines.latch && !s.store.mounted u } } ∧
      (t.store.unit u).prefetchUp = dir ∧
      (s.store.CacheOk → (∀ d ∈ (s.store.unit u).demands, ended d → d.key ∉ s.store.pinSet u) →
        (t.store.unit u).demands = (s.store.unit u).demands.filter (fun d => decide ¬ended d) ∧
        (∀ l, gone l → t.store.line l = Line.free ∧
          (∀ r ∈ t.store.link.demandQ, r.line ≠ l) ∧ ∀ r ∈ t.store.link.prefetchQ, r.line ≠ l) ∧
        (∀ l, ¬gone l → t.store.line l = s.store.line l) ∧
        (∀ r, (∀ l, gone l → r.line ≠ l) →
          ((r ∈ t.store.link.demandQ ↔ r ∈ s.store.link.demandQ) ∧ (r ∈ t.store.link.prefetchQ ↔ r ∈ s.store.link.prefetchQ))) ∧
        t.store.wb = s.store.wb ∧ t.store.staging = s.store.staging ∧ t.store.panel = s.store.panel) ∧
      (s.store.CacheOk → s.store.staging = .empty → s.store.link.available = true →
        ∀ d ∈ (s.store.unit u).demands, ended d → d.key ∈ s.store.pinSet u →
          (t.store.lineOf d.key).isSome = true ∨ t.store.demanded u d.key = true) ∧
      ((s.store.unit u).demands = [] →
        ∃ pk, t.store = { s.store.setUnit u { s.store.unit u with prefetchUp := dir } with
          link := { s.store.link with park := pk } })) ∧
  ∀ (dir : Bool) (width : Nat) (s : State), width < 1000 →
    exec (.stepPulse ⟨dir, width⟩) s = .next (State.settlePark
      { s with mech := { s.mech with pins := { s.mech.pins with dir := dir } } })

/-- R161: a unit with a span in CAPTURE bound to it ignores a step pulse; the other unit, if it is selected, accepts it. -/
def Obligations.BoundUnitIgnoresStep : Prop :=
  ∀ (dir : Bool) (width : Nat) (u : Drive) (s : State), 1000 ≤ width → s.store.spanBound u = true →
    ∃ t, exec (.stepPulse ⟨dir, width⟩) s = .next t ∧ t.pending = s.pending ∧
      t.mech.unit u = s.mech.unit u ∧ (t.store.unit u).prefetchUp = (s.store.unit u).prefetchUp ∧
      t.store.spanBound u = true ∧ t.store.decoder.ctx.track = s.store.decoder.ctx.track ∧
      t.mech.pins = { s.mech.pins with dir := dir } ∧ t.mech.cursor = s.mech.cursor ∧
      ((s.mech.unit u.other).lines.selected = true →
        t.mech.unit u.other =
          { s.mech.unit u.other with
            lines := (s.mech.unit u.other).lines.step s.store.images.config dir (s.store.mounted u.other) } ∧
        (t.store.unit u.other).prefetchUp = dir) ∧
      ((s.mech.unit u.other).lines.selected = false →
        t.mech.unit u.other = s.mech.unit u.other ∧
        ∃ pk, t.store = { s.store with link := { s.store.link with park := pk } })

/-- R84, R85, R86, R104, R106, R162, R163: the expiry of the settle timer makes it idle and sets the cylinder keys to the tracks under the
head, side 0 first, or to none where the head stands on no cylinder of an image. With prefetch off, a demand that has not started keeps
only where its key is in the new pin set (step 2; the cache's rules are a premise, and CacheKeepsItsRules states them). Every DIRTY line of
the unit that is then unpinned and not queued joins the queue in ascending order, at the tail, or each at the head if the unit is
UNMOUNTING. With the card available and no demand of the unit before, every cylinder key has a line or a demand afterwards (step 4). With
the card lost and no demand of the unit, nothing else changes. -/
def Obligations.ArrivalSetsCylinderKeys : Prop :=
  ∀ (u : Drive) (s : State), (s.mech.unit u).lines.settle.isSome = true →
    ∃ t, exec (.arrival u) s = .next t ∧ t.pending = s.pending ∧
      t.mech = s.mech.setUnit u { s.mech.unit u with lines := { (s.mech.unit u).lines with settle := none } } ∧
      (∀ (e : Entry) (slot : Nat), s.store.mounted u = true → (s.store.unit u).mount.entry = some e →
        (s.store.unit u).mount.slot = some slot → e.heads ≤ 2 →
        (t.store.unit u).cylKeys =
          if (s.mech.unit u).lines.head % (s.store.unit u).mount.ratio = 0 ∧
              (s.mech.unit u).lines.head / (s.store.unit u).mount.ratio < e.cimg then
            (List.range e.heads).map fun h => ⟨slot, (s.mech.unit u).lines.head / (s.store.unit u).mount.ratio, h⟩
          else []) ∧
      (s.store.mounted u = false → (t.store.unit u).cylKeys = []) ∧
      (s.store.CacheOk → s.store.images.config.prefetch = false →
        ∀ d ∈ (t.store.unit u).demands, d.stage ≠ .inFlight → d.key ∈ (t.store.unit u).cylKeys ∨ d.key ∈ s.store.claimKey u) ∧
      (s.store.link.available = true → (s.store.unit u).demands = [] →
        ∀ k ∈ (t.store.unit u).cylKeys, (t.store.lineOf k).isSome = true ∨ t.store.demanded u k = true) ∧
      let handed := [0, 1, 2, 3, 4, 5, 6, 7].filter fun l =>
        decide ((s.store.line l).owner = some u ∧ (s.store.line l).state = .dirty ∧ l ∉ s.store.wb.queue ∧
          ∀ k ∈ (t.store.unit u).cylKeys ++ s.store.claimKey u, (s.store.line l).key ≠ some k)
      let wb := { s.store.wb with queue :=
        if (s.store.unit u).mount.state = .unmounting then handed.reverse ++ s.store.wb.queue else s.store.wb.queue ++ handed }
      ((∀ c, s.store.staging ≠ .waiting c) → t.store.wb = wb) ∧
      (s.store.cardLost = true → (s.store.unit u).demands = [] →
        ∃ (keys : List TrackKey) (pk : Option Nat),
          t.store = { s.store.setUnit u { s.store.unit u with cylKeys := keys, prefetchDone := false } with
            wb := wb, link := { s.store.link with park := pk } })

/-- R85 step 4, R87, R89, R92, R93: what an arrival at a cylinder of a single-headed image does for its one key, with the card available, no
demand and no claim of the unit. A key that no line holds takes the lowest FREE line, below the quota: FILLING with a QUEUED demand if the
track has a card copy, a blank CLEAN record at once if it has none. A FAULT line under the key is refilled. With the key resident and
prefetch on, the next cylinder in the prefetch direction, up or down, takes the lowest FREE line, at the least recent end; beyond the image,
or below cylinder 0, nothing is prefetched. -/
def Obligations.ArrivalFillsItsKey : Prop :=
  ∀ (u : Drive) (s : State) (e : Entry) (slot : Nat) (map : BitVec 168) (l : Fin 8),
    (s.mech.unit u).lines.settle.isSome = true → s.store.link.available = true → s.store.staging = .empty →
    (s.store.unit u).demands = [] → s.store.mounted u = true → (s.store.unit u).mount.entry = some e → (s.store.unit u).mount.slot = some slot →
    (s.store.unit u).mount.map = some map → (s.store.unit u).mount.ratio = 1 → e.heads = 1 →
    (s.mech.unit u).lines.head < e.cimg →
    let key : TrackKey := ⟨slot, (s.mech.unit u).lines.head, 0⟩
    ∃ t, exec (.arrival u) s = .next t ∧ (t.store.unit u).cylKeys = [key] ∧
      (s.store.lineOf key = none → (s.store.line l).state = .free → (∀ k, k < l → (s.store.line k).state ≠ .free) →
        (s.store.ownedLines u).length < s.store.quota u → s.store.images.config.prefetch = false →
        (map.getLsbD key.cyl = true →
          t.store.line l = { state := .filling, owner := some u, key := some key, record := none, dirty := [], scratch := false,
                             abandoned := false, arrived := [] } ∧
          (t.store.unit u).demands = [⟨key, .demand, s.store.nextAge, some l, .queued⟩]) ∧
        (map.getLsbD key.cyl = false →
          t.store.line l = { state := .clean, owner := some u, key := some key, record := some (blankRecord key e.enc e.sync e.fill),
                             dirty := [], scratch := false, abandoned := false, arrived := [] } ∧
          (t.store.unit u).demands = [])) ∧
      (s.store.lineOf key = some l → (s.store.line l).state = .fault → (s.store.line l).owner = some u →
        s.store.images.config.prefetch = false →
        (map.getLsbD key.cyl = true →
          (t.store.line l).state = .filling ∧ (t.store.line l).key = some key ∧
          (t.store.unit u).demands = [⟨key, .demand, s.store.nextAge, some l, .queued⟩] ∧
          (t.store.unit u).recency = (s.store.unit u).recency) ∧
        (map.getLsbD key.cyl = false →
          (t.store.line l).state = .clean ∧ (t.store.line l).record = some (blankRecord key e.enc e.sync e.fill) ∧
          (t.store.unit u).demands = [])) ∧
      ((s.store.residentOf key).isSome = true → s.store.images.config.prefetch = true →
        (s.store.line l).state = .free → (∀ k, k < l → (s.store.line k).state ≠ .free) →
        (s.store.ownedLines u).length < s.store.quota u →
        ∀ next : Nat,
          ((s.store.unit u).prefetchUp = true ∧ next = key.cyl + 1 ∧ next < e.cimg) ∨
            ((s.store.unit u).prefetchUp = false ∧ next + 1 = key.cyl) →
          s.store.lineOf { key with cyl := next } = none → map.getLsbD next = true →
          (t.store.line l).state = .filling ∧ (t.store.line l).key = some { key with cyl := next } ∧
          (t.store.unit u).demands = [⟨{ key with cyl := next }, .prefetching, s.store.nextAge, some l, .queued⟩] ∧
          (t.store.unit u).recency = l :: (s.store.unit u).recency.filter (fun x => decide (x ≠ l)) ∧
          (t.store.unit u).prefetchDone = true) ∧
      ((s.store.residentOf key).isSome = true →
        ((s.store.unit u).prefetchUp = true ∧ e.cimg ≤ key.cyl + 1) ∨ ((s.store.unit u).prefetchUp = false ∧ key.cyl = 0) →
        (t.store.unit u).demands = [] ∧ ∀ m, (s.store.line m).state = .free → t.store.line m = s.store.line m)

/-- R164: a change of SIDE changes the side of each selected unit, and no deselected unit's; a span bound to a selected unit ends at the
unit's p, and the decoder drains (R56; WgateReleaseEndsSpan says what the end does). Nothing else changes. -/
def Obligations.SideChangeReachesSelectedUnits : Prop :=
  ∀ s : State,
    let endA := if s.mech.a.lines.selected then s.store.endSpanOf .a s.mech.a.rot.p else s.store
    exec .sideChange s = .next (State.settlePark
      { s with
        mech := { s.mech with
          pins := { s.mech.pins with side := !s.mech.pins.side },
          a := { s.mech.a with lines := { s.mech.a.lines with
            side := if s.mech.a.lines.selected then !s.mech.pins.side else s.mech.a.lines.side } },
          b := { s.mech.b with lines := { s.mech.b.lines with
            side := if s.mech.b.lines.selected then !s.mech.pins.side else s.mech.b.lines.side } } },
        store := if s.mech.b.lines.selected then endA.endSpanOf .b s.mech.b.rot.p else endA })

/-! ### Half-cells (03, 04) -/

/-- R41 to R43, R46, R58, R183: in an ordinary MFM byte the clock half-cell of a cell holds 1 exactly where neither that cell's data bit nor
the one before it is 1, and the data half-cells hold the byte, most significant bit first; in an ordinary FM byte every clock half-cell
holds 1, whatever was sent before; a byte of a mark carries its clock pattern bit for bit. The byte and the clock pattern that sixteen
half-cells were made of are read back from them. RDATA is asserted for the first 12 master clocks of each half-cell that holds a 1, counted
by the source unit's divider, while its byte time carries flux (R46, R183). A flux interval is classed to the nearest allowed length in
half-cells, halfway to the longer, and is a violation outside the accepted range. -/
def Obligations.HalfCellsCarryClockAndData : Prop :=
  (∀ (prev : Bool) (b : Byte) (i : Nat), i < 8 →
    (emitCells .mfm prev (.plain b)).getLsbD (2 * i) = b.getLsbD i ∧
    (emitCells .mfm prev (.plain b)).getLsbD (2 * i + 1) = (!b.getLsbD i && !(if i = 7 then prev else b.getLsbD (i + 1)))) ∧
  (∀ (prev : Bool) (b : Byte) (i : Nat), i < 8 →
    (emitCells .fm prev (.plain b)).getLsbD (2 * i) = b.getLsbD i ∧ (emitCells .fm prev (.plain b)).getLsbD (2 * i + 1) = true) ∧
  (∀ (enc : Encoding) (prev : Bool) (data clock : Byte) (i : Nat), i < 8 →
    (emitCells enc prev (.mark data clock)).getLsbD (2 * i) = data.getLsbD i ∧
    (emitCells enc prev (.mark data clock)).getLsbD (2 * i + 1) = clock.getLsbD i) ∧
  (∀ clock data : Byte, dataOf (halfCells clock data) = data ∧ clockOf (halfCells clock data) = clock) ∧
  (∀ s : State, s.rdataOut = true ↔
    s.mech.cursor.emitting = true ∧ ∃ (u : Drive) (q : RotParams) (k : Nat),
      s.mech.cursor.source = some u ∧ (s.mech.unit u).rot.params = some q ∧ k < 16 ∧ s.mech.cursor.cells.getLsbD (15 - k) = true ∧
        k * q.d ≤ (s.mech.unit u).rot.divider ∧ (s.mech.unit u).rot.divider < (k + 1) * q.d ∧
        (s.mech.unit u).rot.divider < k * q.d + 12) ∧
  ∀ d t n : Nat, 0 < d →
    (classifyInterval .mfm d t = some n ↔
      (n = 2 ∧ 3 * d ≤ 2 * t ∧ 2 * t < 5 * d) ∨ (n = 3 ∧ 5 * d ≤ 2 * t ∧ 2 * t < 7 * d) ∨
        (n = 4 ∧ 7 * d ≤ 2 * t ∧ 2 * t ≤ 9 * d)) ∧
    (classifyInterval .fm d t = some n ↔
      (n = 1 ∧ d ≤ 2 * t ∧ 2 * t < 3 * d) ∨ (n = 2 ∧ 3 * d ≤ 2 * t ∧ 2 * t ≤ 5 * d))

/-- R40, R42 to R45, R48: the byte that a record holds at a position, by regions: sync, mark, identifier and field bytes of the presented
index mark and of a presented sector, its gap and its data, and fill everywhere else. A mark is framed by the emission entry of its
encoding and kind: the first entry of the mark table that names them, or the default entry. Under MFM the last count of its three prefix
positions carry the entry's prefix byte with its prefix clock pattern, the others 00, and the identifier byte is an ordinary one; under FM
the identifier byte carries the entry's identifier clock pattern. The index mark sends its entry's identifier byte, a sector its own. A
field's two CRC bytes, high and then low, cover the prefix bytes (MFM), the identifier byte and the field's bytes from FFFF on, and are
inverted where its fault flag is set. -/
def Obligations.RecordBytesFollowRegions : Prop :=
  (∀ (marks : Vector MarkEntry 8) (enc : Encoding) (kind : MarkKind),
    (∀ i : Fin 8, marks[i].enc = enc → marks[i].kind = kind → (∀ j, j < i → ¬(marks[j].enc = enc ∧ marks[j].kind = kind)) →
      emissionEntry marks enc kind = marks[i]) ∧
    ((∀ i : Fin 8, ¬(marks[i].enc = enc ∧ marks[i].kind = kind)) →
      ∃ i : Fin 8, defaultMarks[i].enc = enc ∧ defaultMarks[i].kind = kind ∧ emissionEntry marks enc kind = defaultMarks[i])) ∧
  ∀ (marks : Vector MarkEntry 8) (t : Nat) (r : TrackRecord),
    let byte := recordByte marks t r
    let entry := emissionEntry marks r.enc
    let pre := if r.enc = .mfm then 3 else 0
    let preByte := fun (e : MarkEntry) (k : Nat) => if k < 3 - e.count then Emit.plain 0 else .mark e.preData e.preClock
    let idByte := fun (e : MarkEntry) (b : Byte) => if r.enc = .mfm then Emit.plain b else .mark b e.idClock
    let crc := fun (e : MarkEntry) (ident : Byte) (payload : List Byte) (fault : Bool) =>
      let c := crcOf 0xFFFF ((if r.enc = .mfm then List.replicate e.count e.preData else []) ++ ident :: payload)
      if fault then c ^^^ 0xFFFF else c
    let crcBytes := fun (c : Word16) (p : Nat) =>
      byte p = .plain (BitVec.setWidth 8 (c >>> 8)) ∧ byte (p + 1) = .plain (BitVec.setWidth 8 c)
    let inIndex := fun p : Nat =>
      ∃ i, r.indexPos = some i ∧ i + indexLength r.enc r.sync ≤ t ∧ i ≤ p ∧ p < i + indexLength r.enc r.sync
    let inSector := fun (x : Sector) (p : Nat) => x.overflow = false ∧ x.pos ≤ p ∧ p < x.pos + footprint r.enc r.sync x
    (∀ i : Nat, r.indexPos = some i → i + indexLength r.enc r.sync ≤ t →
      (∀ j, j < r.sync → byte (i + j) = .plain 0) ∧ (∀ k, k < pre → byte (i + r.sync + k) = preByte (entry .index) k) ∧
      byte (i + r.sync + pre) = idByte (entry .index) (entry .index).ident) ∧
    (∀ p : Nat, ¬inIndex p → (∀ x ∈ r.sectors, ¬inSector x p) → byte p = .plain r.fill) ∧
    ∀ x ∈ r.sectors, x.overflow = false →
      (∀ p, inSector x p → ¬inIndex p ∧ ∀ y ∈ r.sectors, inSector y p → y = x) →
      let m := x.pos + r.sync
      let fields := [x.c, x.h, x.r, x.n]
      (x.data = none ∨ ∃ part : DataPart, x.data = some part ∧ idLength r.enc r.sync ≤ part.d) →
      (∀ j, j < r.sync → byte (x.pos + j) = .plain 0) ∧ (∀ k, k < pre → byte (m + k) = preByte (entry .ident) k) ∧
      byte (m + pre) = idByte (entry .ident) x.ident ∧
      (∀ (k : Nat) (b : Byte), fields[k]? = some b → byte (m + pre + 1 + k) = .plain b) ∧
      crcBytes (crc (entry .ident) x.ident fields x.idFault) (m + pre + 5) ∧
      ∀ part : DataPart, x.data = some part → part.bytes.length = dataLen x.n →
        let e := entry (if part.kind = .deleted then .deleted else .data)
        let d := x.pos + part.d
        (∀ p, x.pos + idLength r.enc r.sync ≤ p → p + r.sync < d → byte p = .plain r.fill) ∧
        (∀ p, x.pos + idLength r.enc r.sync ≤ p → d ≤ p + r.sync → p < d → byte p = .plain 0) ∧
        (∀ k, k < pre → byte (d + k) = preByte e k) ∧ byte (d + pre) = idByte e part.ident ∧
        (∀ (k : Nat) (b : Byte), part.bytes[k]? = some b → byte (d + pre + 1 + k) = .plain b) ∧
        crcBytes (crc e part.ident part.bytes part.fault) (d + pre + 1 + dataLen x.n)

/-! ### Write capture (04) -/

/-- R47, R53, R54, R165 to R169: WGATE's assertion silences RDATA, and begins a span on the source unit exactly where the decoder is IDLE
and the unit is rotating, mounted, not under PROTECT, with the card not locked and panel protect off. The last four are what its WPROT level
shows. Each status output is asserted while a selected unit's level is: WPROT while one of the four does not hold, TRACK0 at head position
0, RDYCHG by the latch in CHANGE mode and while mounted and rotating in READY mode, and INDEX by the index level. -/
def Obligations.WgateAssertBeginsSpan : Prop :=
  (∀ s : State,
    let out := fun level : Drive → Prop => ∃ u, (s.mech.unit u).lines.selected = true ∧ level u
    (s.wprotOut = true ↔ out fun u =>
      s.store.mounted u = false ∨ (s.store.unit u).mount.entry.map Entry.policy = some .protect ∨ s.store.link.lock = some true ∨
        (s.mech.unit u).lines.protect = true) ∧
    (s.track0Out = true ↔ out fun u => (s.mech.unit u).lines.head = 0) ∧
    (s.rdychgOut = true ↔ out fun u =>
      if s.store.images.config.changeMode then (s.mech.unit u).lines.latch = true
      else s.store.mounted u = true ∧ (s.mech.unit u).rot.state = .rotating) ∧
    (s.indexOut = true ↔ out fun u => s.indexLevel u = true)) ∧
  ∀ (u : Drive) (s : State), s.mech.pins.wgate = false →
    ((s.mech.a.lines.selected = true ∧ u = .a) ∨
      (s.mech.a.lines.selected = false ∧ s.mech.b.lines.selected = true ∧ u = .b)) →
    exec .wgateAssert s = .next (State.settlePark
      { s with
        mech := { s.mech with
          pins := { s.mech.pins with wgate := true },
          cursor := { s.mech.cursor with emitting := false, prev := false, cells := 0 } },
        store := { s.store with
          decoder :=
            if s.store.decoder.state = .idle ∧ (s.mech.unit u).rot.state = .rotating ∧ s.store.mounted u = true ∧
                (s.store.unit u).mount.entry.map Entry.policy ≠ some .protect ∧ s.store.link.lock ≠ some true ∧
                (s.mech.unit u).lines.protect = false then
              ⟨.capture, { SpanCtx.reset with
                unit := u, side := s.mech.pins.side, a := (s.mech.unit u).rot.p,
                track := (s.store.unit u).mount.trackAt (s.mech.unit u).lines.head s.mech.pins.side }⟩
            else s.store.decoder } })

/-- R56, R57: WGATE's release leaves the decoder IDLE; outside CAPTURE that is all, and a span in CAPTURE ends at b, the bound unit's
position. Every other end of a span of the unit (its index event, a stop, a deselect, a change of SIDE) has the same effects with its own
b and leaves the decoder DRAINING. The unit's linger timer restarts at every end (R105). A DISCARDED span's end has no other effect; that
the context keeps its other fields between spans is the model's choice (DESIGN CHOICE, log 39). A DATA span that has run on over the start
of the next presented sector sets that sector's ID fault flag (R68). A STRAY or unclassed span sets the ID fault flag of each presented
sector whose ID region meets [a, b), and the data fault flag where the data region with its sync run does (R77). A FORMAT span's claim is
merged at once and ends where a resident line holds its key, or a FAULT line, whose old list counts as empty (R75, R76); with the line
FILLING, or with no line and the card lost, it waits; with no line and the card available it waits with a demand for the key (R87), or
is merged into a blank fill at once (R89), whose end leaves no demand for the key but may let prefetch go ahead (R91, R93). What each end
writes into a resident line is said with its offsets in the record string, whose blocks join the dirty set (R18; Store.Wrote): the next
sector's descriptor, the descriptors of the sectors that a STRAY span marked, and the whole of a merged string. -/
def Obligations.WgateReleaseEndsSpan : Prop :=
  (∀ s : State, s.mech.pins.wgate = true →
    exec .wgateRelease s = .next (State.settlePark
      { s with
        mech := { s.mech with pins := { s.mech.pins with wgate := false } },
        store := if s.store.decoder.state = .capture then
            s.store.endSpan (s.mech.unit s.store.decoder.ctx.unit).rot.p .idle
          else { s.store with decoder := { s.store.decoder with state := .idle } } })) ∧
  (∀ (s : Store) (u : Drive) (b : Nat),
    s.endSpanOf u b = if s.decoder.state = .capture ∧ s.decoder.ctx.unit = u then s.endSpan b .draining else s) ∧
  ∀ (s : Store) (b : Nat) (next : DecState),
    let ctx := s.decoder.ctx
    let t := s.endSpan b next
    t.decoder.state = next ∧
      (t.unit ctx.unit).linger = (if s.images.config.linger = 0 then none else some (24000 * s.images.config.linger)) ∧
      (ctx.cls = .discarded → 0 < s.images.config.linger →
        t = { s.setUnit ctx.unit { s.unit ctx.unit with linger := some (24000 * s.images.config.linger) } with
          decoder := ⟨next, { ctx with field := .none, window := [] }⟩ }) ∧
      (ctx.cls = .data →
        ∀ (l : Fin 8) (i : Nat) (r : TrackRecord), ctx.targetLine = some l → ctx.target = some i → (s.line l).record = some r →
          ((s.line l).state.resident = false ∨ r.sectors[i + 1]? = none → t.lines = s.lines) ∧
          ∀ x : Sector, (s.line l).state.resident = true → r.sectors[i + 1]? = some x →
            let overrun := x.overflow = false ∧ x.pos < b
            (t.line l).record = some
                (if overrun then { r with sectors := r.sectors.set (i + 1) { x with idFault := true } } else r) ∧
              s.Wrote t l fun o => overrun ∧ InDescriptor (i + 1) o) ∧
      (ctx.cls = .stray ∨ ctx.cls = .unclassed →
        ∀ (k : TrackKey) (l : Fin 8) (r : TrackRecord),
          ctx.track = some k → s.residentOf k = some l → (s.line l).record = some r →
          (r.blank = true → t.lines = s.lines) ∧
          (r.blank = false →
            let hitId := fun x : Sector => max ctx.a x.pos < min b (x.pos + idLength r.enc r.sync)
            let hitData := fun (x : Sector) (part : DataPart) =>
              max ctx.a (max (x.pos + part.d - r.sync) (x.pos + idLength r.enc r.sync)) < min b (x.pos + footprint r.enc r.sync x)
            (t.line l).record = some { r with sectors := r.sectors.map fun x =>
                if x.overflow = true then x
                else
                  { x with
                    idFault := x.idFault || decide (hitId x),
                    data := x.data.map fun (part : DataPart) => { part with fault := part.fault || decide (hitData x part) } } } ∧
              s.Wrote t l fun o => ∃ (i : Nat) (x : Sector), r.sectors[i]? = some x ∧ x.overflow = false ∧
                (hitId x ∨ ∃ part, x.data = some part ∧ hitData x part) ∧ InDescriptor i o)) ∧
      (ctx.cls = .stray ∨ ctx.cls = .unclassed → (∀ k, ctx.track = some k → s.residentOf k = none) → t.lines = s.lines) ∧
      (ctx.cls = .format →
        ∀ c : Claim, s.staging = .parsing c →
          (∀ (l : Fin 8) (r : TrackRecord) (o : Drive) (e : Entry),
            s.lineOf c.key = some l → (s.line l).state.resident = true → (s.line l).owner = some o →
            (s.unit o).mount.entry = some e → (s.line l).record = some r →
            let merged := mergeRecord e.trackLen c.a b c.indexM c.sectors r
            t.staging = .empty ∧ (t.line l).record = some merged ∧ s.Wrote t l fun o => o < recordLength merged) ∧
          (∀ (l : Fin 8) (o : Drive) (e : Entry),
            s.lineOf c.key = some l → (s.line l).state = .fault → (s.line l).owner = some o → (s.unit o).mount.entry = some e →
            let merged := mergeRecord e.trackLen c.a b c.indexM c.sectors
              { key := c.key, blank := true, enc := e.enc, sync := e.sync, fill := e.fill, indexPos := none, truncated := false,
                sectors := [] }
            t.staging = .empty ∧ (t.line l).record = some merged ∧
              (e.scratchTrack c.key.cyl = true →
                (t.line l).state = .clean ∧ (t.line l).dirty = [] ∧ (t.line l).scratch = true) ∧
              (e.scratchTrack c.key.cyl = false →
                (t.line l).state = .dirty ∧ (t.line l).dirty = List.range (blockCount (recordLength merged)))) ∧
          ((∃ l, s.lineOf c.key = some l ∧ (s.line l).state = .filling) ∨ (s.lineOf c.key = none ∧ s.cardLost = true) →
            t.staging = .waiting { c with b := some b } ∧ t.lines = s.lines) ∧
          (s.CacheOk → s.lineOf c.key = none → s.link.available = true →
            (t.lineOf c.key).isSome = true ∨ t.demanded c.owner c.key = true) ∧
          (∀ (l : Fin 8) (e : Entry) (map : BitVec 168),
            s.lineOf c.key = none → s.link.available = true → (s.unit c.owner).demands = [] → (s.line l).state = .free →
            (∀ k, k < l → (s.line k).state ≠ .free) → (s.ownedLines c.owner).length < s.quota c.owner →
            (s.unit c.owner).mount.entry = some e → (s.unit c.owner).mount.map = some map →
            (map.getLsbD (c.key.cyl * e.heads + c.key.head) = true →
              t.staging = .waiting { c with b := some b } ∧
                t.line l = { state := .filling, owner := some c.owner, key := some c.key, record := none, dirty := [],
                             scratch := false, abandoned := false, arrived := [] } ∧
                (t.unit c.owner).demands = [⟨c.key, .demand, s.nextAge, some l, .queued⟩]) ∧
            (map.getLsbD (c.key.cyl * e.heads + c.key.head) = false →
              t.staging = .empty ∧ t.demanded c.owner c.key = false ∧
                (s.images.config.prefetch = false → (t.unit c.owner).demands = []) ∧
                (t.line l).record = some (mergeRecord e.trackLen c.a b c.indexM c.sectors
                  { key := c.key, blank := true, enc := e.enc, sync := e.sync, fill := e.fill, indexPos := none, truncated := false,
                    sectors := [] }))))

/-- R53, R58 to R64, R183: outside CAPTURE flux is discarded. In a span, an assertion of WDATA shorter than 150 ns only lengthens the open
interval, and the first pulse only opens one. In a span that searches an MFM track without alignment, a pulse that ends an interval of n
half-cells adds n - 1 half-cells of 0 and one of 1, while fewer than sixteen have come; a half-cell received i half-cells before the pulse
has the position of the byte time it was received in (R30). A violation ends the field in progress, discards the prefix run and the
half-cells left over, and loses the alignment. That a half-cell of 0 lies a whole number of D before its pulse is the model's choice
(DESIGN CHOICE, log 7).
Of several edges each is taken in turn, with the time from it to the last one: what a pulse's interval gives is its half-cells one by one,
each at the position of its byte time, or a violation. In a field, every sixteenth half-cell on the byte grid completes a byte, whose data
half-cells are the field's next byte (R58, R64).
In a span that searches, every half-cell joins the window of sixteen, whose bits are then compared. On an MFM track, the prefix pattern of
an entry that names MFM and counts at least 1 sets the alignment and begins a run of length 1, or lengthens to at most 3 a run of that
pattern that it continues on the byte grid. The first whole byte after a run that is no prefix byte is the candidate identifier: the first
entry in entry order whose count is at least 1 and at most the run's length, whose pattern is the run's and whose identifier byte equals
the candidate outside its mask recognizes a mark at the byte's position less 3, or 0; with none the run is dropped. On an FM track, the
first entry that names FM, whose identifier clock pattern is not FF and equals the clock half-cells, and whose identifier byte equals the
data half-cells outside its mask, recognizes a mark at the byte's position. -/
def Obligations.FluxJoinsSearchWindow : Prop :=
  (∀ (edges : List FluxEdge) (s : State), s.store.decoder.state ≠ .capture → exec (.decodedByte edges) s = .next s.settlePark) ∧
  (∀ (x : FluxEdge) (s : State), s.store.decoder.state = .capture → x.width < 150 ∨ s.store.decoder.ctx.opened = none →
    exec (.decodedByte [x]) s = .next (State.settlePark
      { s with store := { s.store with decoder := { s.store.decoder with ctx := { s.store.decoder.ctx with
        opened := if x.width < 150 then s.store.decoder.ctx.opened.map (fun g => g + x.since) else some 0 } } } })) ∧
  (∀ (x : FluxEdge) (g n : Nat) (e : Entry) (s : State), s.store.decoder.state = .capture → s.store.spanEntry = some e →
    e.enc = .mfm → s.store.decoder.ctx.cls = .unclassed → s.store.decoder.ctx.field = .none →
    s.store.decoder.ctx.aligned = none → s.store.decoder.ctx.opened = some g → 150 ≤ x.width →
    classifyInterval .mfm e.divider (g + x.since) = some n → s.store.decoder.ctx.window.length + n < 16 →
    let r := (s.mech.unit s.store.decoder.ctx.unit).rot
    exec (.decodedByte [x]) s = .next (State.settlePark
      { s with store := { s.store with decoder := { s.store.decoder with ctx := { s.store.decoder.ctx with
        opened := some 0,
        window := (List.range n).map (fun i =>
            (decide (i = 0), max s.store.decoder.ctx.a (if i * e.divider ≤ r.divider then r.p else r.p - 1))) ++
          s.store.decoder.ctx.window } } } })) ∧
  (∀ (x : FluxEdge) (xs : List FluxEdge) (s : State), s.store.decoder.state = .capture →
    exec (.decodedByte (x :: xs)) s = exec (.decodedByte xs)
      { s with store := s.store.fluxEdge (s.mech.unit s.store.decoder.ctx.unit).rot (xs.map FluxEdge.since).sum x }) ∧
  (∀ (s : Store) (r : Rotation) (after : Nat) (x : FluxEdge),
    let opens := fun o : Option Nat => { s with decoder := { s.decoder with ctx := { s.decoder.ctx with opened := o } } }
    (x.width < 150 → s.fluxEdge r after x = opens (s.decoder.ctx.opened.map fun g => g + x.since)) ∧
    (150 ≤ x.width → s.decoder.ctx.opened = none → s.fluxEdge r after x = opens (some 0)) ∧
    ∀ (g : Nat) (e : Entry), 150 ≤ x.width → s.decoder.ctx.opened = some g → s.spanEntry = some e →
      (classifyInterval e.enc e.divider (g + x.since) = none → s.fluxEdge r after x = (opens (some 0)).violation) ∧
      ∀ n : Nat, classifyInterval e.enc e.divider (g + x.since) = some n → 0 < e.divider →
        let place := fun i : Nat =>
          let back := after + (n - 1 - i) * e.divider
          max s.decoder.ctx.a (if back ≤ r.divider then r.p else r.p - ((back - r.divider - 1) / (16 * e.divider) + 1))
        s.fluxEdge r after x =
          (List.range n).foldl (fun t i => t.halfCell e (place i) (decide (i + 1 = n))) (opens (some 0))) ∧
  (∀ s : State, exec .fluxViolation s = .next (State.settlePark
    { s with store := { s.store with decoder :=
      if s.store.decoder.state = .capture then
        { s.store.decoder with ctx := { s.store.decoder.ctx with
          field := .none, window := [], run := none, runLen := 0, aligned := none } }
      else s.store.decoder } })) ∧
  (∀ (s : Store) (e : Entry) (p : Nat) (bit : Bool) (cells : Word16),
    s.decoder.state = .capture → s.decoder.ctx.cls ≠ .stray → s.decoder.ctx.cls ≠ .discarded → s.decoder.ctx.field ≠ .none →
    let c := s.decoder.ctx
    let window := ((bit, p) :: c.window).take 16
    let put := fun x : SpanCtx => { s with decoder := { s.decoder with ctx := x } }
    (∀ k, k < 16 → cells.getLsbD k = ((window[k]?).map Prod.fst).getD false) →
    (c.aligned = some 15 →
      s.halfCell e p bit = (put { c with window := window, aligned := some 0 }).fieldByte (dataOf cells)) ∧
    (c.aligned ≠ some 15 →
      s.halfCell e p bit = put { c with window := window, aligned := c.aligned.map fun n => n + 1 })) ∧
  ∀ (s : Store) (e : Entry) (p m : Nat) (bit oldest : Bool) (cells : Word16),
    s.decoder.state = .capture → s.decoder.ctx.cls = .unclassed ∨ s.decoder.ctx.cls = .format → s.decoder.ctx.field = .none →
    let c := s.decoder.ctx
    let window := ((bit, p) :: c.window).take 16
    let put := fun x : SpanCtx => { s with decoder := { s.decoder with ctx := x } }
    let whole := c.aligned = some 15
    let onward := if whole then some 0 else c.aligned.map fun n => n + 1
    let fits := fun (x : MarkEntry) (b : Byte) => (b ^^^ x.ident) &&& ~~~x.mask = 0
    (∀ k, k < 16 → cells.getLsbD k = ((window[k]?).map Prod.fst).getD false) → window.getLast? = some (oldest, m) →
    (e.enc = .mfm →
      let usable := fun x : MarkEntry => x.enc = .mfm ∧ 1 ≤ x.count
      let isPrefix := window.length = 16 ∧ ∃ i : Fin 8, usable s.marks[i] ∧ halfCells s.marks[i].preClock s.marks[i].preData = cells
      let named := fun (run : Word16) (x : MarkEntry) =>
        usable x ∧ x.count ≤ c.runLen ∧ halfCells x.preClock x.preData = run ∧ fits x (dataOf cells)
      let gap : SpanCtx := { c with window := window, aligned := some 0, run := none, runLen := 0 }
      (isPrefix → s.halfCell e p bit = put { c with
        window := window, aligned := some 0, run := some cells,
        runLen := if whole ∧ c.run = some cells then min 3 (c.runLen + 1) else 1 }) ∧
      (¬isPrefix → ¬whole → s.halfCell e p bit = put { c with window := window, aligned := onward }) ∧
      (¬isPrefix → whole → c.run = none → s.halfCell e p bit = put gap) ∧
      (∀ run : Word16, ¬isPrefix → whole → c.run = some run →
        (∀ i : Fin 8, named run s.marks[i] → (∀ j, j < i → ¬named run s.marks[j]) →
          s.halfCell e p bit = (put gap).recognized e i (m - 3) (dataOf cells)) ∧
        ((∀ i : Fin 8, ¬named run s.marks[i]) → s.halfCell e p bit = put gap))) ∧
    (e.enc = .fm →
      let found := fun x : MarkEntry =>
        window.length = 16 ∧ x.enc = .fm ∧ x.idClock ≠ 0xFF ∧ clockOf cells = x.idClock ∧ fits x (dataOf cells)
      (∀ i : Fin 8, found s.marks[i] → (∀ j, j < i → ¬found s.marks[j]) →
        s.halfCell e p bit = (put { c with window := window, aligned := some 0 }).recognized e i m (dataOf cells)) ∧
      ((∀ i : Fin 8, ¬found s.marks[i]) → s.halfCell e p bit = put { c with window := window, aligned := onward }))

/-- R71, R74: while the buffer is PARSING, a recognized INDEX mark at m sets the claim's new index-mark position to m, whatever it was, and
changes nothing else: neither the claim's sectors nor which is the latest. As the first mark of a span (R65), it makes the span FORMAT with
a claim of its own where the bound track lies within the image, the card is available and the buffer is EMPTY, and DISCARDED otherwise. -/
def Obligations.IndexMarkSetsClaimPosition : Prop :=
  (∀ (s : Store) (e : Entry) (i : Fin 8) (m : Nat) (ident : Byte) (c : Claim),
    s.staging = .parsing c → s.decoder.ctx.cls = .format → (s.marks[i]).kind = .index →
    s.recognized e i m ident = { s with staging := .parsing { c with indexM := some m } }) ∧
  ∀ (s : Store) (e : Entry) (i : Fin 8) (m : Nat) (ident : Byte),
    s.decoder.ctx.cls = .unclassed → (s.marks[i]).kind = .index →
    let classed := fun cls : SpanClass => { s with decoder := { s.decoder with ctx := { s.decoder.ctx with cls := cls } } }
    (∀ key, s.decoder.ctx.track = some key → s.staging = .empty → s.cardLost = false →
      s.recognized e i m ident =
        { classed .format with staging := .parsing ⟨s.decoder.ctx.unit, key, s.decoder.ctx.a, none, some m, []⟩ }) ∧
    (s.decoder.ctx.track = none ∨ s.staging ≠ .empty ∨ s.cardLost = true → s.recognized e i m ident = classed .discarded)

/-- R64, R65, R70 to R73: the ID and data fields of a format span. A span's first mark of kind ID claims the buffer as an INDEX mark does,
or makes the span DISCARDED. An ID mark opens a field of 4 bytes with its CRC preset by the mark; with 64 new sectors in the buffer, or no
room for 16 more bytes in 16,384, the field is taken and dropped. The four bytes and the two CRC bytes of a field that is kept add a new
sector to the claim, with its fault flag set exactly where the received CRC differs from the one computed, and make it the latest new
sector. A DATA or DELETED mark gives the latest new sector its data part, faulty and of 00 bytes, and opens its field; where that sector has
a data part already or its bytes do not fit, a field is taken and dropped; with no latest new sector nothing is opened. Each data byte taken
replaces the data part's byte, so that what a violation or the span's end leaves untaken stays 00, and the two CRC bytes clear the
fault flag exactly where they match. A dropped field changes neither claim nor lines. That an ID field leaves no latest new sector until it
ends whole, so that none takes a data field after a dropped or cut one, is the model's reading (DEDUCED, log 12), and that the window of
half-cells starts empty where a field opens is its choice (DESIGN CHOICE, log 8). -/
def Obligations.IdentFieldGivesNewSector : Prop :=
  let put := fun (s : Store) (c : SpanCtx) => { s with decoder := { s.decoder with ctx := c } }
  let opened := fun (s : Store) (e : Entry) (i : Fin 8) (m : Nat) (ident : Byte) (f : Field) (len : Nat) =>
    let mark := s.marks[i]
    { s.decoder.ctx with
      field := f, len := len, count := 0, crcGot := 0, entry := some i, markPos := m, ident := ident, taken := [], window := [],
      crc := crcOf 0xFFFF ((if e.enc = .mfm then List.replicate mark.count mark.preData else []) ++ [ident]) }
  let staged : List NewSector → Nat := fun xs => 64 + (xs.map fun x => 16 + if x.data.isSome then dataLen x.n else 0).sum
  (∀ (s : Store) (e : Entry) (i : Fin 8) (m : Nat) (ident : Byte), (s.marks[i]).kind = .ident →
    (s.decoder.ctx.cls = .unclassed →
      (∀ key, s.decoder.ctx.track = some key → s.staging = .empty → s.cardLost = false →
        s.recognized e i m ident =
          { put s { opened s e i m ident (.ident true) 4 with cls := .format, latest := false } with
            staging := .parsing ⟨s.decoder.ctx.unit, key, s.decoder.ctx.a, none, none, []⟩ }) ∧
      (s.decoder.ctx.track = none ∨ s.staging ≠ .empty ∨ s.cardLost = true →
        s.recognized e i m ident = put s { s.decoder.ctx with cls := .discarded })) ∧
    (∀ c : Claim, s.decoder.ctx.cls = .format → s.staging = .parsing c →
      s.recognized e i m ident =
        put s { opened s e i m ident (.ident (decide (c.sectors.length < 64 ∧ staged c.sectors + 16 ≤ 16384))) 4 with
          latest := false })) ∧
  (∀ (s : Store) (claim : Claim) (c h r n hi lo : Byte) (keep : Bool),
    s.staging = .parsing claim → s.decoder.ctx.field = .ident keep → s.decoder.ctx.len = 4 → s.decoder.ctx.count = 0 →
    s.decoder.ctx.taken = [] → s.decoder.ctx.crcGot = 0 →
    let t := [c, h, r, n, hi, lo].foldl Store.fieldByte s
    t.decoder.ctx.field = .none ∧ t.lines = s.lines ∧ t.link = s.link ∧ t.wb = s.wb ∧
    (keep = true →
      t.staging = .parsing { claim with
        sectors := claim.sectors ++
          [⟨s.decoder.ctx.markPos, s.decoder.ctx.ident, c, h, r, n, (hi ++ lo : Word16) != crcOf s.decoder.ctx.crc [c, h, r, n],
            none⟩] } ∧
      t.decoder.ctx.latest = true) ∧
    (keep = false → t.staging = .parsing claim ∧ t.decoder.ctx.latest = s.decoder.ctx.latest)) ∧
  (∀ (s : Store) (e : Entry) (i : Fin 8) (m : Nat) (ident : Byte) (c : Claim),
    (s.marks[i]).kind = .data ∨ (s.marks[i]).kind = .deleted → s.decoder.ctx.cls = .format → s.staging = .parsing c →
    (s.decoder.ctx.latest = false → s.recognized e i m ident = s) ∧
    ∀ (older : List NewSector) (x : NewSector), s.decoder.ctx.latest = true → c.sectors = older ++ [x] →
      (x.data = none → staged c.sectors + dataLen x.n ≤ 16384 →
        let part : NewData :=
          ⟨m, if (s.marks[i]).kind = .deleted then .deleted else .data, ident, true, List.replicate (dataLen x.n) 0⟩
        s.recognized e i m ident =
          { put s (opened s e i m ident .newData (dataLen x.n)) with
            staging := .parsing { c with sectors := older ++ [{ x with data := some part }] } }) ∧
      (x.data ≠ none ∨ 16384 < staged c.sectors + dataLen x.n →
        s.recognized e i m ident = put s (opened s e i m ident .dropped (dataLen x.n)))) ∧
  ∀ (s : Store) (c : Claim) (bytes : List Byte), s.staging = .parsing c → s.decoder.ctx.count = 0 → s.decoder.ctx.crcGot = 0 →
    (∀ (older : List NewSector) (x : NewSector) (part : NewData),
      s.decoder.ctx.field = .newData → c.sectors = older ++ [x] → x.data = some part → part.bytes.length = s.decoder.ctx.len →
      let holds := fun (t : Store) (part : NewData) =>
        t.staging = .parsing { c with sectors := older ++ [{ x with data := some part }] } ∧ t.lines = s.lines
      (bytes.length ≤ s.decoder.ctx.len →
        holds (bytes.foldl Store.fieldByte s) { part with bytes := bytes ++ part.bytes.drop bytes.length }) ∧
      ∀ hi lo : Byte, bytes.length = s.decoder.ctx.len →
        let t := (bytes ++ [hi, lo]).foldl Store.fieldByte s
        t.decoder.ctx.field = .none ∧
          holds t { part with bytes := bytes, fault := (hi ++ lo : Word16) != crcOf s.decoder.ctx.crc bytes }) ∧
    (s.decoder.ctx.field = .dropped → ∀ hi lo : Byte, bytes.length = s.decoder.ctx.len →
      let t := (bytes ++ [hi, lo]).foldl Store.fieldByte s
      t.decoder.ctx.field = .none ∧ t.staging = s.staging ∧ t.lines = s.lines)

/-- R8, R18, R65, R66, R67: a span's first mark, of kind DATA or DELETED at m, finds the presented sector with the greatest position whose
ID field ends at or before m. If that sector holds data and its data mark lies within 32 byte times of m, it becomes the target: its kind,
identifier byte and offset are set with its data fault flag, its descriptor is written, and its field is taken. The offset kept is the
smaller of m - pos and the largest for which the extent still ends at or before its limit, which is T or the next sector's position if that
is smaller, and never below the ID length. With no track or resident line under the head,
with a blank record, without such a sector, and where it holds no data or its data mark lies further from m, the span is STRAY and nothing
else changes. Each data byte taken replaces the target's byte, whose place in the record string is its block's, and a CRC that matches at
the end clears the flag and writes the descriptor; the first CRC byte and a CRC that does not match write nothing (Store.Wrote). -/
def Obligations.DataMarkEditsTarget : Prop :=
  (∀ (s : Store) (e : Entry) (i : Fin 8) (m : Nat) (ident : Byte),
    s.decoder.ctx.cls = .unclassed → (s.marks[i]).kind = .data ∨ (s.marks[i]).kind = .deleted →
    let t := s.recognized e i m ident
    let stray := { s with decoder := { s.decoder with ctx := { s.decoder.ctx with cls := .stray } } }
    ((∀ key, s.decoder.ctx.track = some key → s.residentOf key = none) → t = stray) ∧
    ∀ (key : TrackKey) (l : Fin 8) (r : TrackRecord),
      s.decoder.ctx.track = some key → s.residentOf key = some l → (s.line l).record = some r →
      let before := fun y : Sector => y.overflow = false ∧ y.pos + idLength r.enc r.sync ≤ m
      (r.blank = true → t = stray) ∧
      ((∀ x ∈ r.sectors, ¬before x) → t = stray) ∧
      ∀ (place : Nat) (x : Sector), r.blank = false → r.sectors[place]? = some x → before x →
        (∀ (j : Nat) (y : Sector), r.sectors[j]? = some y → before y → j ≠ place → y.pos < x.pos) →
        (x.data = none → t = stray) ∧
        ∀ part : DataPart, x.data = some part →
          (x.pos + part.d + 32 < m ∨ m + 32 < x.pos + part.d → t = stray) ∧
          (m ≤ x.pos + part.d + 32 → x.pos + part.d ≤ m + 32 →
            t.decoder.ctx.cls = .data ∧ t.decoder.ctx.target = some place ∧ t.decoder.ctx.targetLine = some l ∧
              t.decoder.ctx.field = .target ∧ t.decoder.ctx.len = dataLen x.n ∧ t.decoder.ctx.count = 0 ∧
              (∀ limit : Nat,
                (∀ y, r.sectors[place + 1]? = some y → limit = min e.trackLen y.pos) →
                (r.sectors[place + 1]? = none → limit = e.trackLen) →
                let largest := limit - x.pos - dataLen x.n - (if r.enc = .mfm then 6 else 3)
                (t.line l).record = some { r with sectors := r.sectors.set place { x with data := some { part with
                  d := max (idLength r.enc r.sync) (min (m - x.pos) largest),
                  kind := if (s.marks[i]).kind = .deleted then .deleted else .data, ident := ident, fault := true } } }) ∧
              s.Wrote t l (InDescriptor place))) ∧
  ∀ (s : Store) (l : Fin 8) (place : Nat) (r : TrackRecord) (x : Sector) (part : DataPart) (b : Byte),
    s.decoder.ctx.field = .target → s.decoder.ctx.targetLine = some l → s.decoder.ctx.target = some place →
    (s.line l).state.resident = true → (s.line l).record = some r → r.sectors[place]? = some x → x.data = some part →
    let t := s.fieldByte b
    let dataStart := 64 + 16 * r.sectors.length + ((r.sectors.take place).map fun y => if y.data.isSome then dataLen y.n else 0).sum
    (s.decoder.ctx.count < s.decoder.ctx.len →
      (t.line l).record = some { r with
          sectors := r.sectors.set place { x with data := some { part with bytes := part.bytes.set s.decoder.ctx.count b } } } ∧
        s.Wrote t l fun o => o = dataStart + s.decoder.ctx.count) ∧
    (s.decoder.ctx.count = s.decoder.ctx.len → t.lines = s.lines) ∧
    (s.decoder.ctx.count = s.decoder.ctx.len + 1 →
      let good := s.decoder.ctx.crcGot ||| BitVec.setWidth 16 b = s.decoder.ctx.crc
      t.decoder.ctx.field = .none ∧
      (t.line l).record = some
        (if good then { r with sectors := r.sectors.set place { x with data := some { part with fault := false } } } else r) ∧
      s.Wrote t l fun o => good ∧ InDescriptor place o)

/-- R18, R86, R95, R104, R106, R108: an edit that wrote blocks adds them to the dirty set of a persistent line and takes a CLEAN one to
DIRTY, which wakes a parked link (which blocks each edit writes is said in DataMarkEditsTarget and WgateReleaseEndsSpan); an unpinned line,
and any line while a drain is pending, joins the queue, at the head if its unit is UNMOUNTING. On a scratch track it sets the
scratch-modified flag instead. A line that is not resident takes no edit. That the line goes to the very head also where both units are
UNMOUNTING and its own was the earlier is the model's choice between two sentences of R106 (DESIGN CHOICE, log 43). -/
def Obligations.EditMarksLineDirty : Prop :=
  ∀ (s : Store) (l : Fin 8) (blocks : List Nat) (u : Drive) (e : Entry) (k : TrackKey), blocks ≠ [] →
    (s.line l).owner = some u → (s.unit u).mount.entry = some e → (s.line l).key = some k →
    let t := s.edit l blocks
    (∀ m, m ≠ l → t.line m = s.line m) ∧ (t.line l).record = (s.line l).record ∧
    ((s.line l).state = .clean → e.scratchTrack k.cyl = true →
      t = s.setLine l { s.line l with scratch := true }) ∧
    ((s.line l).state = .clean → e.scratchTrack k.cyl = false →
      (t.line l).state = .dirty ∧ (∀ b, b ∈ (t.line l).dirty ↔ b ∈ (s.line l).dirty ∨ b ∈ blocks) ∧
      (s.link.state = .parked → t.link.state = .idle) ∧
      (l ∉ s.wb.queue →
        ((s.unit u).mount.state = .unmounting → t.wb.queue = l :: s.wb.queue) ∧
        ((s.unit u).mount.state ≠ .unmounting → s.wb.drain = true ∨ s.pinned l = false → t.wb.queue = s.wb.queue ++ [l]) ∧
        ((s.unit u).mount.state ≠ .unmounting → s.wb.drain = false → s.pinned l = true → t.wb.queue = s.wb.queue))) ∧
    ((s.line l).state = .dirty ∨ (s.line l).state = .writing →
      (t.line l).state = (s.line l).state ∧ (∀ b, b ∈ (t.line l).dirty ↔ b ∈ (s.line l).dirty ∨ b ∈ blocks) ∧ t.wb = s.wb) ∧
    ((s.line l).state.resident = false → t = s)

/-- R16, R76: a format merge over [a, b) keeps the presented sectors whose extents lie clear of it, adds the new sectors, places the index
mark and clears the blank flag. While the lot fits 64 sectors and 16,384 bytes, no sector is lost, and each keeps its identifiers, its fault
flags and its data; a new one has its offset from max(0, m - s). The sectors end in order of position. Where the old sectors stand in order
of position, as in every resident record (R12), the new ones are inserted in that order: of the sectors with one position the old one comes
first and the new ones keep their span order. Of the list so joined the merge takes the longest leading part of at most 64 sectors and
16,384 bytes, so that what goes is taken from its end, and lays it out (LayoutCheckSeparatesSectors says what the check does). -/
def Obligations.FormatMergeKeepsAndAdds : Prop :=
  ∀ (t a b : Nat) (newIndex : Option Nat) (new : List NewSector) (r : TrackRecord), a < b →
    let kept := r.sectors.filter fun x => decide (x.overflow = false ∧ (x.pos + footprint r.enc r.sync x ≤ a ∨ b ≤ x.pos))
    let added : List Sector := new.map fun (x : NewSector) =>
      { pos := x.m - r.sync, c := x.c, h := x.h, r := x.r, n := x.n, ident := x.ident, idFault := x.idFault,
        data := x.data.map fun (part : NewData) =>
          { d := max (part.m - (x.m - r.sync)) (idLength r.enc r.sync), kind := part.kind, ident := part.ident,
            fault := part.fault, bytes := part.bytes },
        overflow := false, shifted := false }
    let merged := mergeRecord t a b newIndex new r
    merged.blank = false ∧ merged.key = r.key ∧ merged.enc = r.enc ∧ merged.sync = r.sync ∧ merged.fill = r.fill ∧
      merged.truncated = r.truncated ∧
      merged.indexPos = (match newIndex with
        | some m => some (m - r.sync)
        | none => r.indexPos.filter fun i => decide (i < a ∨ b ≤ i)) ∧
      merged.sectors.length ≤ 64 ∧ recordLength merged ≤ 16384 ∧
      (kept.length + added.length ≤ 64 → listLength (kept ++ added) ≤ 16384 →
        (merged.sectors.map fun x => (x.c, x.h, x.r, x.n, x.ident, x.idFault, x.data)).Perm
          ((kept ++ added).map fun x => (x.c, x.h, x.r, x.n, x.ident, x.idFault, x.data))) ∧
      (merged.sectors.Pairwise fun x y => x.pos ≤ y.pos) ∧
      ((kept.Pairwise fun x y => x.pos ≤ y.pos) →
        ∃ (joined : List Sector) (q : Nat),
          (joined.Pairwise fun x y => x.pos ≤ y.pos) ∧
          (∀ p : Nat, (joined.filter fun x => decide (x.pos = p)) = (kept ++ added).filter fun x => decide (x.pos = p)) ∧
          (let fits := fun j : Nat => j ≤ 64 ∧
            64 + 16 * j + ((joined.take j).map fun x => if x.data.isSome then dataLen x.n else 0).sum ≤ 16384
          q ≤ joined.length ∧ fits q ∧ ∀ j, q < j → j ≤ joined.length → ¬fits j) ∧
          merged = layoutCheck t
            { r with blank := false, indexPos := merged.indexPos, sectors := joined.take q })

/-! ### Cache and write-back (05, 06) -/

/-- R69, R80, R82, R87, R88, R90, R96, R152: a waiting demand whose track the card holds takes the lowest-numbered FREE line below the
unit's quota. With no FREE line, or at the quota, it reuses a line of the unit that is CLEAN or FAULT, unpinned and without the abandoned
mark: the least recently presented one whose scratch-modified flag is clear, or, where every such line has it set, the least recently
presented of all. The line is FILLING at the most recent end of the order, what it held is gone, a span's target in it is dropped, and the
read of the slot's first block is asked for, which wakes a parked link. Nothing else changes. Without a line to take, the demand stays
WAITING. Where a line outside FREE holds its key already, it takes none (R81). -/
def Obligations.DemandTakesFreeLine : Prop :=
  ∀ (u : Drive) (s : State) (d : Demand),
    (s.store.unit u).demands = [d] → d.stage = .waiting → d.cls = .demand →
    let below := (s.store.ownedLines u).length < s.store.quota u
    let reusable := fun l : Fin 8 => (s.store.line l).owner = some u ∧
      ((s.store.line l).state = .clean ∨ (s.store.line l).state = .fault) ∧ (s.store.line l).abandoned = false ∧
      s.store.pinned l = false
    let chosen := fun l : Fin 8 => ∃ older newer : List (Fin 8),
      (s.store.unit u).recency = older ++ l :: newer ∧ reusable l ∧
        (((s.store.line l).scratch = false ∧ ∀ k ∈ older, reusable k → (s.store.line k).scratch = true) ∨
          ((∀ k ∈ (s.store.unit u).recency, reusable k → (s.store.line k).scratch = true) ∧ ∀ k ∈ older, ¬reusable k))
    (∀ (l : Fin 8) (e : Entry) (map : BitVec 168), s.store.lineOf d.key = none →
      ((s.store.line l = Line.free ∧ (∀ k, k < l → (s.store.line k).state ≠ .free) ∧ below) ∨
        (((∀ k, (s.store.line k).state ≠ .free) ∨ ¬below) ∧ chosen l)) →
      (s.store.unit u).mount.entry = some e → (s.store.unit u).mount.map = some map →
      map.getLsbD (d.key.cyl * e.heads + d.key.head) = true → s.store.link.available = true →
      ∃ pk, exec (.demandTakesLine u) s = .next
        { s with store :=
          { (s.store.setUnit u
              { s.store.unit u with
                demands := [{ d with line := some l, stage := .queued }],
                recency := (s.store.unit u).recency.filter (fun y => decide (y ≠ l)) ++ [l] }).setLine l
              { state := .filling, owner := some u, key := some d.key, record := none, dirty := [], scratch := false,
                abandoned := false, arrived := [] } with
            decoder := if s.store.decoder.ctx.targetLine = some l then
                { s.store.decoder with ctx := { s.store.decoder.ctx with target := none, targetLine := none } }
              else s.store.decoder,
            link := { s.store.link with
              state := if s.store.link.state = .parked then .idle else s.store.link.state,
              demandQ := insertReq
                ⟨l, false, d.age, e.base + 1 + (d.key.cyl * e.heads + d.key.head) * 2 ^ e.k, 1⟩ s.store.link.demandQ,
              suspendReq := s.store.link.suspendReq || s.store.wbGrant, park := pk } } }) ∧
    ((∀ k, (s.store.line k).state ≠ .free) ∨ ¬below → (∀ l ∈ (s.store.unit u).recency, ¬reusable l) →
      exec (.demandTakesLine u) s = .next s.settlePark) ∧
    ((s.store.lineOf d.key).isSome = true → exec (.demandTakesLine u) s = .next s.settlePark)

/-- R90 item 1, R91: a header block that passes its checks and is not blank is kept, and the read of the slot's other blocks is asked for
at once, under DEMAND for a pinned line. A stored blank flag ends the fill with a blank CLEAN record, with E7 if the copy is marked
truncated (R19, R20). A header that names another track, or more sectors than the slot holds, makes the line FAULT with E5. No claim
waits and prefetch is off where a fill ends in this statement. -/
def Obligations.HeaderEndAsksForBody : Prop :=
  ∀ (u : Drive) (s : State) (l : Fin 8) (key : TrackKey) (e : Entry) (block : List Byte),
    s.store.link.ended = some (.fillHeader l, block) →
    (s.store.line l).state = .filling → (s.store.line l).owner = some u → (s.store.line l).key = some key →
    (s.store.line l).abandoned = false → s.store.mounted u = true → (s.store.unit u).mount.entry = some e →
    (∀ d : Demand, (s.store.unit u).demands = [d] → d.line = some l → s.store.pinned l = true →
      storedHeaderOk e key block = true → storedFlag block 0 = false →
      (s.store.link.state = .idle ∨ s.store.link.state = .busy) →
      ∃ pk, exec .headerTransactionEnd s = .next
        { s with store :=
          { s.store.setLine l { s.store.line l with arrived := block } with
            link := { s.store.link with
              ended := none,
              demandQ := insertReq
                ⟨l, true, d.age, e.base + 1 + (key.cyl * e.heads + key.head) * 2 ^ e.k + 1, 2 ^ e.k - 1⟩ s.store.link.demandQ,
              suspendReq := s.store.link.suspendReq || s.store.wbGrant, park := pk } } }) ∧
    (s.store.staging = .empty → s.store.images.config.prefetch = false →
      ((byteAt block 0).toNat ≠ key.slot ∨ (byteAt block 1).toNat ≠ key.cyl ∨ (byteAt block 2).toNat ≠ key.head ∨
          512 * 2 ^ e.k < 64 + 16 * leAt block 8 2 →
        ∃ pk, exec .headerTransactionEnd s = .next
          { s with store :=
            { (s.store.setUnit u
                { s.store.unit u with
                  demands := (s.store.unit u).demands.filter fun d => decide (d.line ≠ some l) }).setLine l
                { s.store.line l with state := .fault, record := none, arrived := [] } with
              link := { s.store.link with ended := none, park := pk },
              panel := { s.store.panel with code := some .e5, faultOn := true } } }) ∧
      (storedHeaderOk e key block = true → storedFlag block 0 = true →
        ∃ t, exec .headerTransactionEnd s = .next t ∧ t.mech = s.mech ∧ t.pending = s.pending ∧
          t.store.line l = { s.store.line l with
            state := .clean, dirty := [], arrived := [],
            record := some { blankRecord key e.enc (clampTo 1 16 (byteAt block 5).toNat) (byteAt block 6) with
              truncated := (byteAt block 3).getLsbD 1 } } ∧
          (∀ m, m ≠ l → t.store.line m = s.store.line m) ∧
          t.store.panel = (if (byteAt block 3).getLsbD 1 then { s.store.panel with code := some .e7, faultOn := true }
            else s.store.panel)))

/-- R90 item 2, R91, R144: a slot that loads makes its line CLEAN with the loaded record and an empty dirty set, and ends its demand, with
E7 where the copy is marked truncated (R20). A slot whose record is longer than the slot, and a read of the fill whose third attempt fails
in any of the four ways (FailsReadBlock), make the line FAULT with E5. With no claim waiting and prefetch off, nothing else changes. -/
def Obligations.BodyEndLoadsRecord : Prop :=
  ∀ (u : Drive) (s : State) (l : Fin 8) (key : TrackKey) (e : Entry),
    (s.store.line l).state = .filling → (s.store.line l).owner = some u → (s.store.line l).key = some key →
    (s.store.line l).abandoned = false → s.store.mounted u = true → (s.store.unit u).mount.entry = some e →
    s.store.staging = .empty → s.store.images.config.prefetch = false →
    let ended := s.store.setUnit u
      { s.store.unit u with demands := (s.store.unit u).demands.filter fun d => decide (d.line ≠ some l) }
    (∀ rest : List Byte, s.store.link.ended = some (.fillBody l, rest) →
      (∀ r : TrackRecord, loadRecord e key ((s.store.line l).arrived ++ rest) = some r →
        ∃ pk, exec .bodyTransactionEnd s = .next
          { s with store :=
            { ended.setLine l { s.store.line l with state := .clean, record := some r, dirty := [], arrived := [] } with
              link := { s.store.link with ended := none, park := pk },
              panel := if r.truncated then { s.store.panel with code := some .e7, faultOn := true } else s.store.panel } }) ∧
      (512 * 2 ^ e.k < storedLength ((s.store.line l).arrived ++ rest) →
        ∃ pk, exec .bodyTransactionEnd s = .next
          { s with store :=
            { ended.setLine l { s.store.line l with state := .fault, record := none, arrived := [] } with
              link := { s.store.link with ended := none, park := pk },
              panel := { s.store.panel with code := some .e5, faultOn := true } } })) ∧
    (∀ (c : Instr) (t : ReadTxn), FailsReadBlock c → s.store.link.current = some (.read t) →
      t.job = .fillHeader l ∨ t.job = .fillBody l → 3 ≤ t.attempt →
      ∃ pk, exec c s = .next
        { s with store :=
          { ended.setLine l { s.store.line l with state := .fault, record := none, arrived := [] } with
            link := { s.store.link with state := .idle, current := none, park := pk },
            panel := { s.store.panel with code := some .e5, faultOn := true } } })

/-- R105: the linger timer's expiry adds every DIRTY line of the unit that is not queued, ascending, at the tail of the queue. -/
def Obligations.LingerExpiryQueuesDirtyLines : Prop :=
  ∀ (u : Drive) (s : State), (s.store.unit u).linger.isSome = true → s.store.link.state ≠ .parked →
    exec (.lingerExpiry u) s = .next (State.settlePark
      { s with store :=
        { s.store.setUnit u { s.store.unit u with linger := none } with
          wb := { s.store.wb with
            queue := s.store.wb.queue ++
              [0, 1, 2, 3, 4, 5, 6, 7].filter fun l => decide ((s.store.line l).owner = some u ∧
                (s.store.line l).state = .dirty ∧ l ∉ s.store.wb.queue) } } })

/-! ### Card link (08) -/

/-- R147, R148: the IDLE link takes a DEMAND request before a CATALOGUE one, a CATALOGUE one before WRITE-BACK, and WRITE-BACK before a
PREFETCH one, each time the first of its queue, and is BUSY with its transaction; a fill's header read puts its demand IN FLIGHT (R90). A
grant to WRITE-BACK starts a pass over the head of the queue: the line is WRITING, and its first block leaves the dirty set, is the cursor
and is being written (R109, R110; NextBlockIs); a record longer than its slot is written in truncated form, whole (R115). A suspended pass
goes on with its next block (R112). A resume write sends block 0: the catalogue copy with byte 16 and byte 17 changed to the two resume
slots, FF for none (R133, R180). With no request the link stays IDLE. -/
def Obligations.GrantTakesHighestClass : Prop :=
  ∀ s : State, s.store.link.state = .idle → s.store.link.ended = none →
    (∀ (r : FillReq) (rest : List FillReq), s.store.link.demandQ = r :: rest → 0 < r.count →
      r.start + r.count ≤ s.store.capacityOf →
      let link := { s.store.link with
        state := .busy, demandQ := rest, park := none,
        current := some (.read
          ⟨if r.body then .fillBody r.line else .fillHeader r.line, .demand, r.start, r.count, r.start, 1, some r.age, []⟩) }
      (r.body = true → exec .arbiterGrant s = .next { s with store := { s.store with link := link } }) ∧
      (r.body = false →
        let start := fun d : Demand => if d.line = some r.line then { d with stage := .inFlight } else d
        exec .arbiterGrant s = .next
          { s with store := { s.store with
            a := { s.store.a with demands := s.store.a.demands.map start },
            b := { s.store.b with demands := s.store.b.demands.map start }, link := link } })) ∧
    (∀ rest : List CatReq, s.store.link.demandQ = [] → s.store.link.catQ = .header :: rest → 0 < s.store.capacityOf →
      exec .arbiterGrant s = .next
        { s with store := { s.store with link := { s.store.link with
          state := .busy, catQ := rest, park := none,
          current := some (.read ⟨.catHeader, .catalogue, 0, 1, 0, 1, none, []⟩) } } }) ∧
    (∀ (start count : Nat) (rest : List CatReq), s.store.link.demandQ = [] →
      s.store.link.catQ = .directory start count :: rest → 0 < count → start + count ≤ s.store.capacityOf →
      exec .arbiterGrant s = .next
        { s with store := { s.store with link := { s.store.link with
          state := .busy, catQ := rest, park := none,
          current := some (.read ⟨.directory, .catalogue, start, count, start, 1, none, []⟩) } } }) ∧
    (∀ (u : Drive) (base : Nat) (rest : List CatReq), s.store.link.demandQ = [] →
      s.store.link.catQ = .imageHeader u base :: rest → base < s.store.capacityOf →
      exec .arbiterGrant s = .next
        { s with store := { s.store with link := { s.store.link with
          state := .busy, catQ := rest, park := none,
          current := some (.read ⟨.imageHeader u, .catalogue, base, 1, base, 1, none, []⟩) } } }) ∧
    (∀ (copy : List Byte) (rest : List CatReq), s.store.link.demandQ = [] → s.store.link.catQ = .resume :: rest →
      s.store.images.catalogue = some copy → copy.length = 512 → 0 < s.store.capacityOf →
      let slotByte := fun r : Option Nat => match r with
        | some n => BitVec.ofNat 8 n
        | none => (0xFF : Byte)
      ∃ block : List Byte,
        block.length = 512 ∧ byteAt block 16 = slotByte s.store.a.resume ∧ byteAt block 17 = slotByte s.store.b.resume ∧
        (∀ i, i ≠ 16 → i ≠ 17 → byteAt block i = byteAt copy i) ∧
        exec .arbiterGrant s = .next
          { s with store := { s.store with link := { s.store.link with
            state := .busy, catQ := rest, park := none,
            current := some (.write ⟨.resume, .catalogue, 0, 0, 1, .transfer, block⟩) } } }) ∧
    (∀ (l : Fin 8) (rest : List (Fin 8)) (u : Drive) (e : Entry) (r : TrackRecord) (key : TrackKey) (b : Nat),
      s.store.link.demandQ = [] → s.store.link.catQ = [] → s.store.link.current = none → s.store.wb.current = none →
      s.store.wb.queue = l :: rest → (s.store.line l).owner = some u → (s.store.unit u).mount.entry = some e →
      (s.store.line l).record = some r → (s.store.line l).key = some key →
      let long := decide (e.slotBytes < recordLength r)
      let extent := blockCount (passLength long e.slotBytes r)
      let dirty := if long then List.range extent else (s.store.line l).dirty
      NextBlockIs none extent (2 ^ e.k) dirty b → e.slotStart key + b < s.store.capacityOf →
      exec .arbiterGrant s = .next
        { s with store :=
          { s.store.setLine l { s.store.line l with state := .writing, dirty := dirty.filter fun x => decide (x ≠ b) } with
            wb := { s.store.wb with
              queue := rest, current := some l, cursor := some b, owed := false, suspended := false,
              truncForm := long },
            link := { s.store.link with
              state := .busy, park := none,
              current := some (.write ⟨.record, .writeBack, e.slotStart key + b, e.slotStart key + b, 1, .transfer, []⟩) } } }) ∧
    (∀ (l : Fin 8) (u : Drive) (e : Entry) (r : TrackRecord) (key : TrackKey) (c b : Nat),
      s.store.link.demandQ = [] → s.store.link.catQ = [] → s.store.link.current = none → s.store.PassAt l u e r key →
      s.store.wb.owed = false → s.store.wb.cursor = some c →
      NextBlockIs (some c) (blockCount (passLength s.store.wb.truncForm e.slotBytes r)) (2 ^ e.k) (s.store.line l).dirty b →
      e.slotStart key + b < s.store.capacityOf →
      exec .arbiterGrant s = .next
        { s with store :=
          { s.store.setLine l { s.store.line l with dirty := (s.store.line l).dirty.filter fun x => decide (x ≠ b) } with
            wb := { s.store.wb with cursor := some b, suspended := false },
            link := { s.store.link with
              state := .busy, park := none,
              current := some (.write ⟨.record, .writeBack, e.slotStart key + b, e.slotStart key + b, 1, .transfer, []⟩) } } }) ∧
    (∀ (r : FillReq) (rest : List FillReq), s.store.link.demandQ = [] → s.store.link.catQ = [] → s.store.wb.queue = [] →
      s.store.wb.current = none → s.store.link.prefetchQ = r :: rest → r.body = true → 0 < r.count →
      r.start + r.count ≤ s.store.capacityOf →
      exec .arbiterGrant s = .next
        { s with store := { s.store with link := { s.store.link with
          state := .busy, prefetchQ := rest, park := none,
          current := some (.read ⟨.fillBody r.line, .prefetching, r.start, r.count, r.start, 1, some r.age, []⟩) } } }) ∧
    (s.store.link.demandQ = [] → s.store.link.catQ = [] → s.store.link.prefetchQ = [] → s.store.wb.queue = [] →
      s.store.wb.current = none → exec .arbiterGrant s = .next s.settlePark)

/-- R143, R144: a block of 512 bytes whose link check matches is handed over, and the read goes on with the next block. A block that is not
OK (a wrong link check, a card error, no response, no data) ends an attempt, and a second and a third attempt start at that block; what
was handed over stays. The third failure of a catalogue or directory read makes the catalogue invalid with E2 (R120), and that of an
image header read leaves the unit in stage LOOKUP EMPTY with E3 and then acts on a request that waits (R131); a failed fill read is said in
BodyEndLoadsRecord. That the last block leaves the link IDLE with the read waiting for its requester's step is the model's choice
(DESIGN CHOICE, log 6). -/
def Obligations.ReadBlockIsHandedOverOrRetried : Prop :=
  (∀ (s : State) (t : ReadTxn) (data : List Byte) (check : Word16),
    s.store.link.current = some (.read t) → data.length = 512 → crcOf 0 data = check →
    exec (.readBlockOutcome (.block data check)) s = .next (State.settlePark
      { s with store := { s.store with link :=
        if t.next + 1 < t.start + t.count then
          { s.store.link with current := some (.read { t with next := t.next + 1, got := t.got ++ data }) }
        else { s.store.link with state := .idle, current := none, ended := some (t.job, t.got ++ data) } } })) ∧
  ∀ (c : Instr) (s : State) (t : ReadTxn),
    FailsReadBlock c → s.store.link.current = some (.read t) →
    let link := { s.store.link with state := .idle, current := none }
    (t.attempt < 3 →
      exec c s = .next (State.settlePark
        { s with store := { s.store with link := { s.store.link with
          current := some (.read { t with attempt := t.attempt + 1 }) } } })) ∧
    (3 ≤ t.attempt → t.job = .catHeader ∨ t.job = .directory →
      exec c s = .next (State.settlePark
        { s with store := { s.store with
          a := { s.store.a with resume := none }, b := { s.store.b with resume := none }, link := link,
          images := { s.store.images with catalogue := none, reading := false, table := [] },
          panel := { s.store.panel with candidate := none, candTimer := none, code := some .e2, faultOn := true } } })) ∧
    ∀ u : Drive, 3 ≤ t.attempt → t.job = .imageHeader u →
      ((s.store.unit u).mount.state = .changingLookup →
        exec c s = .next (State.settlePark
          { s with store :=
            { s.store.setUnit u { s.store.unit u with
                mount := match (s.store.unit u).mount.pending with
                  | some r =>
                    { Mount.reset with
                      state := .changingInterval, target := some r, timer := some (24000 * s.store.images.config.change) }
                  | none => Mount.reset } with
              link := link, panel := { s.store.panel with code := some .e3, faultOn := true } } })) ∧
      ((s.store.unit u).mount.state ≠ .changingLookup →
        exec c s = .next (State.settlePark { s with store := { s.store with link := link } }))

/-- R143, R145, R146: a block of a write that is not OK on its first or second attempt stops the run; when the busy period of that stop
ends, the run opens again at the same block, as its next attempt. When the busy period of a closing stop ends, the transaction ends: a
resume write leaves the link IDLE, and so does a pass that has ended; a pass for which a DEMAND request waits is suspended (R112, R149); any
other pass goes on with its present-map write, if one is owed (R114), or with its next block in a new transaction. That the owed write goes
first also where an edit has added a block above the cursor meanwhile is the model's choice (DESIGN CHOICE, log 47). That a pass has already
ended when the busy period of its closing stop ends, so that the stop belongs to the link alone, is the model's reading (DEDUCED, log 13),
and so is that a retry sends the bytes that were kept when the transfer began (DEDUCED, log 29). -/
def Obligations.StoppedRunGoesOnOrEnds : Prop :=
  (∀ (c : Instr) (s : State) (t : WriteTxn),
    (c = .writeBlockOutcome .checkMismatch ∨ c = .writeBlockOutcome .rejected ∨ c = .linkResponseTimeout ∨
      c = .writeBusyTimeout) →
    s.store.link.current = some (.write t) → t.phase = .transfer → t.attempt < 3 →
    exec c s = .next (State.settlePark
      { s with store := { s.store with link := { s.store.link with current := some (.write { t with phase := .retryStop }) } } })) ∧
  ∀ (s : State) (t : WriteTxn), s.store.link.current = some (.write t) →
    (t.phase = .retryStop →
      exec .stopBusyEnd s = .next (State.settlePark
        { s with store := { s.store with link := { s.store.link with
          current := some (.write { t with phase := .transfer, attempt := t.attempt + 1 }) } } })) ∧
    (t.phase = .closeStop → t.job = .resume → s.store.images.resumeAgain = false →
      exec .stopBusyEnd s = .next (State.settlePark
        { s with store := { s.store with link := { s.store.link with state := .idle, current := none } } })) ∧
    (t.phase = .closeStop → t.job ≠ .resume →
      (s.store.wb.current = none →
        exec .stopBusyEnd s = .next (State.settlePark
          { s with store := { s.store with
            link := { s.store.link with state := .idle, current := none, suspendReq := false } } })) ∧
      (s.store.wb.current.isSome = true → s.store.link.suspendReq = true →
        exec .stopBusyEnd s = .next (State.settlePark
          { s with store := { s.store with
            link := { s.store.link with state := .idle, current := none, suspendReq := false },
            wb := { s.store.wb with suspended := true } } })) ∧
      (∀ (l : Fin 8) (u : Drive) (e : Entry) (r : TrackRecord) (key : TrackKey), s.store.PassAt l u e r key →
        s.store.link.suspendReq = false →
        (∀ map : BitVec 168, s.store.wb.owed = true → (s.store.unit u).mount.map = some map → e.base < s.store.capacityOf →
          exec .stopBusyEnd s = .next
            { s with store := { s.store with link := { s.store.link with
              state := .busy, park := none,
              current := some (.write ⟨.presentMap, .writeBack, e.base, e.base, 1, .transfer,
                imageHeaderBlock e (setMapBit map (key.cyl * e.heads + key.head))⟩) } } }) ∧
        (∀ c b : Nat, s.store.wb.owed = false → s.store.wb.cursor = some c →
          NextBlockIs (some c) (blockCount (passLength s.store.wb.truncForm e.slotBytes r)) (2 ^ e.k) (s.store.line l).dirty b →
          e.slotStart key + b < s.store.capacityOf →
          exec .stopBusyEnd s = .next
            { s with store :=
              { s.store.setLine l { s.store.line l with dirty := (s.store.line l).dirty.filter fun x => decide (x ≠ b) } with
                wb := { s.store.wb with cursor := some b },
                link := { s.store.link with
                  state := .busy, park := none,
                  current := some (.write
                    ⟨.record, .writeBack, e.slotStart key + b, e.slotStart key + b, 1, .transfer, []⟩) } } })))

/-- R133, R145, R146: a resume write's block that the card accepts closes the run with the link's stop. A record block of a pass is
confirmed: the smallest dirty block above the cursor (NextBlockIs; others may lie below it, R111) follows in the same run if it is the very
next one and no DEMAND request has asked for the card (R110, R149), and otherwise the run is closed; with no block left the pass ends, CLEAN
with an empty dirty set and DIRTY at the tail of the queue with one that is not (R113), or owes the present-map write where the track's bit
is clear (R114). Block 0 of a truncated string gives E7 (R116). A present-map write's block sets the bit and ends the pass, CLEAN or, where
an edit has added a block meanwhile, DIRTY. Where the owner is UNMOUNTING, the line that stays DIRTY goes to the head of the queue (R106);
where it is HELD, the line that would be CLEAN is FREE, and an owner left without a line is EMPTY, and is offered its pending request or its
resume slot (R97, R107, R134, R137). That the pass ends at the block's outcome, before the stop's busy period that R143 counts into the
block boundary, is the model's reading (DEDUCED, log 13). -/
def Obligations.AcceptedBlockGoesOn : Prop :=
  ∀ (s : State) (t : WriteTxn), s.store.link.current = some (.write t) → t.phase = .transfer →
    let close := { s.store.link with current := some (.write { t with phase := .closeStop }) }
    (t.job = .resume →
      exec (.writeBlockOutcome .accepted) s = .next (State.settlePark { s with store := { s.store with link := close } })) ∧
    (∀ (l : Fin 8) (u : Drive) (e : Entry) (r : TrackRecord) (key : TrackKey) (map : BitVec 168),
      s.store.PassAt l u e r key → (s.store.unit u).mount.map = some map →
      let line := s.store.line l
      let state := (s.store.unit u).mount.state
      let leaves := fun (wb : WriteBack) (map : BitVec 168) (panel : Panel) => state = .held → line.dirty = [] →
        ∃ t, exec (.writeBlockOutcome .accepted) s = .next t ∧ t.mech = s.mech ∧ t.pending = s.pending ∧ t.store.line l = Line.free ∧
          (∀ m, m ≠ l → t.store.line m = s.store.line m) ∧ t.store.wb = wb ∧ t.store.panel = panel ∧
          (t.store.unit u).recency = (s.store.unit u).recency.filter (fun m => decide (m ≠ l)) ∧
          ((∃ m, m ≠ l ∧ (s.store.line m).owner = some u) →
            (t.store.unit u).mount = { (s.store.unit u).mount with map := some map }) ∧
          ((∀ m, m ≠ l → (s.store.line m).owner ≠ some u) →
            (t.store.unit u).mount =
              (match (s.store.unit u).mount.pending.or ((s.store.unit u).resume.map .slot) with
              | some request =>
                if s.store.images.config.enabled u = true ∧ s.store.link.available = true ∧ s.store.catalogueValid = true then
                  { Mount.reset with
                    state := .changingInterval, target := some request, timer := some (24000 * s.store.images.config.change) }
                else { Mount.reset with pending := (s.store.unit u).mount.pending }
              | none => Mount.reset))
      let done := { s.store.wb with current := none, cursor := none, owed := false, suspended := false, truncForm := false }
      let track := key.cyl * e.heads + key.head
      (∀ c : Nat, t.job = .record → s.store.wb.cursor = some c →
        let panel := if s.store.wb.truncForm = true ∧ c = 0 then { s.store.panel with code := some .e7, faultOn := true }
          else s.store.panel
        (∀ b : Nat,
          NextBlockIs (some c) (blockCount (passLength s.store.wb.truncForm e.slotBytes r)) (2 ^ e.k) line.dirty b →
          (b = c + 1 → s.store.link.suspendReq = false → e.slotStart key + b < s.store.capacityOf →
            exec (.writeBlockOutcome .accepted) s = .next (State.settlePark
              { s with store :=
                { s.store.setLine l { line with dirty := line.dirty.filter fun x => decide (x ≠ b) } with
                  wb := { s.store.wb with cursor := some b }, panel := panel,
                  link := { s.store.link with
                    current := some (.write { t with block := e.slotStart key + b, attempt := 1 }) } } })) ∧
          (b ≠ c + 1 ∨ s.store.link.suspendReq = true →
            exec (.writeBlockOutcome .accepted) s = .next (State.settlePark
              { s with store := { s.store with link := close, panel := panel } }))) ∧
        ((∀ x ∈ line.dirty, x ≤ c ∨ blockCount (passLength s.store.wb.truncForm e.slotBytes r) ≤ x ∨ 2 ^ e.k ≤ x) →
          (line.dirty = [] → map.getLsbD track = true → state = .mounted ∨ state = .unmounting →
            exec (.writeBlockOutcome .accepted) s = .next (State.settlePark
              { s with store :=
                { s.store.setLine l { line with state := .clean } with
                  wb := done, link := { close with suspendReq := false }, panel := panel } })) ∧
          (map.getLsbD track = true → leaves done map panel) ∧
          (line.dirty = [] → map.getLsbD track = false →
            exec (.writeBlockOutcome .accepted) s = .next (State.settlePark
              { s with store := { s.store with wb := { s.store.wb with owed := true }, link := close, panel := panel } })) ∧
          (line.dirty ≠ [] → l ∉ s.store.wb.queue →
            exec (.writeBlockOutcome .accepted) s = .next (State.settlePark
              { s with store :=
                { s.store.setLine l { line with state := .dirty } with
                  wb := { done with queue := if state = .unmounting then l :: s.store.wb.queue else s.store.wb.queue ++ [l] },
                  link := { close with suspendReq := false }, panel := panel } })))) ∧
      (t.job = .presentMap → leaves done (setMapBit map track) s.store.panel) ∧
      (t.job = .presentMap → line.dirty = [] → state = .mounted ∨ state = .unmounting →
        exec (.writeBlockOutcome .accepted) s = .next (State.settlePark
          { s with store :=
            { (s.store.setUnit u { s.store.unit u with
                mount := { (s.store.unit u).mount with map := some (setMapBit map track) } }).setLine l
                { line with state := .clean } with
              wb := done, link := { close with suspendReq := false } } })) ∧
      (t.job = .presentMap → line.dirty ≠ [] → l ∉ s.store.wb.queue →
        exec (.writeBlockOutcome .accepted) s = .next (State.settlePark
          { s with store :=
            { (s.store.setUnit u { s.store.unit u with
                mount := { (s.store.unit u).mount with map := some (setMapBit map track) } }).setLine l
                { line with state := .dirty } with
              wb := { done with queue := if state = .unmounting then l :: s.store.wb.queue else s.store.wb.queue ++ [l] },
              link := { close with suspendReq := false } } })))

/-- R99, R145, R154: a block's third failure, or a stop that stays busy, puts the link in FAULT with E6; every line with modified data is
HELD with its record and its dirty set, to which the unconfirmed block is added, and block 0 where a present-map write was owed; every
other line is FREE (R118, R119). No CATALOGUE request waits in this statement. -/
def Obligations.FailedWriteHoldsModifiedLines : Prop :=
  ∀ (c : Instr) (s : State) (t : WriteTxn),
    s.store.link.current = some (.write t) →
    (t.phase = .transfer ∧ 3 ≤ t.attempt ∧
        (c = .writeBlockOutcome .checkMismatch ∨ c = .writeBlockOutcome .rejected ∨ c = .linkResponseTimeout ∨
          c = .writeBusyTimeout) ∨
      t.phase ≠ .transfer ∧ c = .writeBusyTimeout) →
    s.store.link.catQ = [] →
    ∃ x, exec c s = .next x ∧ x.pending = s.pending ∧ x.mech = s.mech ∧
      x.store.link.state = .fault ∧ x.store.link.current = none ∧ x.store.link.demandQ = [] ∧ x.store.link.prefetchQ = [] ∧
      x.store.link.remembered = s.store.link.remembered ∧ x.store.images.config = s.store.images.config ∧
      x.store.panel.code = some .e6 ∧ x.store.panel.faultOn = true ∧
      x.store.wb.current = none ∧ x.store.wb.queue = [] ∧
      ∀ l, (s.store.line l).lost (s.store.LossAdds l) (x.store.line l)

/-- R140: in ABSENT the contact's assertion starts 50 ms of debounce, its release cancels it, and the timer's expiry starts initialization
with its bound of 1 s (R141). R141, R151, R154: the expiry of the initialization timer puts the link in FAULT and gives E1; the expiry of
the park timer takes an IDLE link to PARKED. None of these changes anything else. -/
def Obligations.ContactAndLinkTimersMoveLink : Prop :=
  ∀ s : State,
    (s.store.link.state = .absent →
      (s.mech.pins.cd = false →
        exec .cardDetectAssert s = .next
          { s with mech := { s.mech with pins := { s.mech.pins with cd := true } },
                   store := { s.store with link := { s.store.link with debounce := some 1200000, park := none } } }) ∧
      (exec .cardDetectRelease s = .next
          { s with mech := { s.mech with pins := { s.mech.pins with cd := false } },
                   store := { s.store with link := { s.store.link with debounce := none, park := none } } }) ∧
      (s.store.link.debounce.isSome = true →
        exec .debounceExpiry s = .next
          { s with store := { s.store with link := { s.store.link with
            state := .initializing, debounce := none, initTimer := some 24000000, initStep := 1, found := none, park := none } } })) ∧
    (s.store.link.state = .initializing →
      exec .initTimerExpiry s = .next
        { s with store := { s.store with
          link := { s.store.link with state := .fault, initTimer := none, initStep := 1, found := none, park := none },
          panel := { s.store.panel with code := some .e1, faultOn := true } } }) ∧
    (s.store.link.state = .idle → s.store.link.park.isSome = true →
      exec .parkTimerExpiry s = .next
        { s with store := { s.store with link := { s.store.link with state := .parked, park := none } } })

/-- R141, R142, R120: the steps of initialization are taken in order: a response ends step 1, the ready report step 2, and the identify
values step 3; an error response, no response, an answer that does not end step 2 or 3, and a capacity of 0 leave the link in the same step,
which is repeated. The card's answer in step 4 ends initialization: the link is IDLE with the identity, capacity and lock it found, the
identity is remembered, and the catalogue header read is asked for. That one answer ends step 4 and steps 5 and 6 with it, and that the
command carries the level of the lock contact, is the model's choice (DESIGN CHOICE, log 20). With no HELD line nothing else changes. With
HELD lines the comparison with the remembered identity decides (R100, R107): on the same card, unlocked, they are DIRTY with their records
and dirty sets and join the tail of the queue in ascending order; on the same card, locked, they stay HELD and the panel is given E9; on
another card they are FREE, the panel is given E8, and a HELD unit that owns no other line is EMPTY and keeps its pending request (R134). -/
def Obligations.InitializationBringsCardUp : Prop :=
  (∀ (s : State) (lock : Bool), s.store.link.state = .initializing →
    let becomes := fun k : Link => (.next
      { s with
        mech := { s.mech with pins := { s.mech.pins with lock := lock } },
        store := { s.store with link := { k with park := none } } } : Host.Outcome State Fault Refusal)
    (s.store.link.initStep = 1 → exec (.initStepResponse .response lock) s = becomes { s.store.link with initStep := 2 }) ∧
    (s.store.link.initStep = 2 →
      exec (.initStepResponse .readyReport lock) s = becomes { s.store.link with initStep := 3 } ∧
      exec (.initStepResponse .response lock) s = becomes s.store.link) ∧
    (s.store.link.initStep = 3 → ∀ serial date capacity : Nat,
      exec (.initStepResponse (.identify serial date capacity) lock) s =
        becomes (if capacity = 0 then s.store.link
          else { s.store.link with initStep := 4, found := some (⟨serial, date⟩, capacity) })) ∧
    exec (.initStepResponse .errorResponse lock) s = becomes s.store.link ∧
    (s.store.link.current = none →
      exec .linkResponseTimeout s = .next { s with store := { s.store with link := { s.store.link with park := none } } })) ∧
  ∀ (s : State) (r : InitResponse) (lock : Bool) (id : CardId) (capacity : Nat),
    s.store.link.state = .initializing → s.store.link.initStep = 4 → s.store.link.found = some (id, capacity) →
    r ≠ .errorResponse →
    let mech := { s.mech with pins := { s.mech.pins with lock := lock } }
    let images := { s.store.images with reading := true }
    let link := { s.store.link with
      state := .idle, initTimer := none, initStep := 1, found := none, identity := some id, remembered := some id,
      capacity := some capacity, lock := some lock, catQ := s.store.link.catQ ++ [.header], park := none }
    let same := s.store.link.remembered = some id
    let held := fun l : Fin 8 => (s.store.line l).state = .held
    ((∀ l, ¬held l) →
      exec (.initStepResponse r lock) s = .next
        { s with mech := mech, store := { s.store with images := images, link := link } }) ∧
    ((∃ l, held l) → same → lock = true →
      exec (.initStepResponse r lock) s = .next
        { s with
          mech := mech,
          store := { s.store with
            images := images, link := link, panel := { s.store.panel with code := some .e9, faultOn := true } } }) ∧
    ((∃ l, held l) → same → lock = false →
      ∃ t, exec (.initStepResponse r lock) s = .next t ∧ t.pending = s.pending ∧ t.mech = mech ∧
        t.store = { s.store with
          images := images, link := link, lines := t.store.lines,
          wb := { s.store.wb with queue := s.store.wb.queue ++
            [0, 1, 2, 3, 4, 5, 6, 7].filter fun l => decide (held l ∧ l ∉ s.store.wb.queue) } } ∧
        ∀ l, t.store.line l = if held l then { s.store.line l with state := .dirty } else s.store.line l) ∧
    ((∃ l, held l) → ¬same →
      ∃ t, exec (.initStepResponse r lock) s = .next t ∧ t.pending = s.pending ∧ t.mech = mech ∧
        t.store.images = images ∧ t.store.link = link ∧ t.store.wb = s.store.wb ∧ t.store.staging = s.store.staging ∧
        t.store.panel = { s.store.panel with code := some .e8, faultOn := true } ∧
        (∀ l, t.store.line l = if held l then Line.free else s.store.line l) ∧
        ∀ u, let left := (s.store.unit u).mount.state = .held ∧ ∀ l, (s.store.line l).owner = some u → held l
          (left → (t.store.unit u).mount = { Mount.reset with pending := (s.store.unit u).mount.pending }) ∧
          (¬left → (t.store.unit u).mount = (s.store.unit u).mount) ∧
          (t.store.unit u).demands = (s.store.unit u).demands ∧
          (t.store.unit u).recency =
            (s.store.unit u).recency.filter fun l => decide ¬(held l ∧ (s.store.line l).owner = some u))

/-- R99, R120, R133, R134, R139, R153: a removal leaves the link as at reset but for the remembered identity, clears catalogue copy,
directory table and resume slots, keeps the working configuration and the mark table, and, where the card was available, keeps every line
with modified data as HELD, its dirty set with it, and frees the others; where it was lost already (in INITIALIZING and FAULT), no HELD and
no FREE line changes. In every state a mounted unit is then HELD if it owns a HELD line and EMPTY if not; it stops, loses its rotation
parameters, sets its change latch and keeps its pending request. A CHANGING unit is HELD if it owns a line and EMPTY if not, with its
pending request, or else its target, as the pending request. An EMPTY unit's context stays, and so does that of a HELD unit, unless a card
loss leaves it without a line (what the unit does then is the model's choice, DESIGN CHOICE, log 50, and no clause here says it). -/
def Obligations.CardRemovalHoldsModifiedLines : Prop :=
  ∀ s : State, s.store.link.state ≠ .absent →
    ∃ t, exec .cardRemoval s = .next t ∧ t.pending = s.pending ∧ t.mech.pins = { s.mech.pins with cd := false } ∧
      t.store.link = { Link.reset with remembered := s.store.link.remembered } ∧
      t.store.images.catalogue = none ∧ t.store.images.table = [] ∧ t.store.images.config = s.store.images.config ∧
      t.store.a.resume = none ∧ t.store.b.resume = none ∧ t.store.marks = s.store.marks ∧
      t.store.panel.candidate = none ∧
      (s.store.link.available = true → ∀ l, (s.store.line l).lost (s.store.LossAdds l) (t.store.line l)) ∧
      (s.store.link.available = false →
        ∀ l, (s.store.line l).state = .held ∨ (s.store.line l).state = .free → t.store.line l = s.store.line l) ∧
      ∀ u : Drive,
        let before := (s.store.unit u).mount
        let now := (t.store.unit u).mount
        let owns := ∃ l, (t.store.line l).owner = some u
        let heldWith := fun pending : Option MountReq =>
          { before with state := .held, ratio := 1, target := none, timer := none, pending := pending }
        (s.store.mounted u = true →
          (t.mech.unit u).rot = Rotation.reset ∧ (t.mech.unit u).lines = { (s.mech.unit u).lines with latch := true } ∧
          (t.store.unit u).cylKeys = [] ∧ (t.store.unit u).linger = none ∧
          (s.store.link.available = true ∨ (s.store.unit u).demands = [] → (t.store.unit u).demands = []) ∧
          ((∃ l, (t.store.line l).owner = some u ∧ (t.store.line l).state = .held) → now = heldWith before.pending) ∧
          ((¬∃ l, (t.store.line l).owner = some u ∧ (t.store.line l).state = .held) →
            now = { Mount.reset with pending := before.pending })) ∧
        (before.state = .changingInterval ∨ before.state = .changingLookup →
          let pending := if before.pending.isSome then before.pending else before.target
          (owns → now = heldWith pending) ∧ (¬owns → now = { Mount.reset with pending := pending })) ∧
        (before.state = .empty → now = before) ∧
        (before.state = .held → s.store.link.available = false ∨ owns → now = before)

/-- R151: after every command the park timer runs exactly while the park test holds. -/
def Obligations.ParkTimerRunsWhileTestHolds : Prop :=
  ∀ (c : Instr) (s t : State), exec c s = .next t → (t.store.link.park.isSome = true ↔ t.ParkTestHolds)

/-! ### Images (07) -/

/-- R120, R180: a header block is good where its first eight bytes are the signature "GNCATLG1", its version is 1, and the directory of its
entries, above 100 taken as 100, begins at block 1 or later and ends within the card. A good block that names entries is kept as the
catalogue copy, and the read of its directory is asked for; one that names none is installed at once with an empty table (State.Installed
says what that makes, log 46 among it). Any other block makes the catalogue invalid with E2 and leaves the working configuration. -/
def Obligations.CatalogueHeaderIsChecked : Prop :=
  ∀ (s : State) (block : List Byte), s.store.link.ended = some (.catHeader, block) →
    let count := min (byteAt block 9).toNat 100
    let start := leAt block 12 4
    let blocks := (count + 7) / 8
    let good := block.take 8 = [0x47, 0x4E, 0x43, 0x41, 0x54, 0x4C, 0x47, 0x31] ∧ byteAt block 8 = 1 ∧
      (count = 0 ∨ (1 ≤ start ∧ start + blocks ≤ s.store.capacityOf))
    (good → count ≠ 0 → s.store.link.state = .idle →
      exec .catalogueHeaderReadEnd s = .next
        { s with store := { s.store with
          images := { s.store.images with catalogue := some block },
          link := { s.store.link with
            ended := none, park := none, catQ := s.store.link.catQ ++ [.directory start blocks] } } }) ∧
    (good → count = 0 → ∃ t, exec .catalogueHeaderReadEnd s = .next t ∧ s.Installed t block []) ∧
    (¬good →
      ∃ t, exec .catalogueHeaderReadEnd s = .next t ∧ t.mech = s.mech ∧ t.pending = s.pending ∧
        t.store.images = { s.store.images with catalogue := none, reading := false, table := [] } ∧
        t.store.a = { s.store.a with resume := none } ∧ t.store.b = { s.store.b with resume := none } ∧
        t.store.panel = { s.store.panel with candidate := none, candTimer := none, code := some .e2, faultOn := true } ∧
        t.store.marks = s.store.marks ∧ t.store.lines = s.store.lines)

/-- R39, R120 to R124, R136, R137, R180, R181: the end of the directory read installs the catalogue (State.Installed; log 46): the table
built from the directory, the clamped configuration, the mark table rebuilt from it, the resume slots, and the mounts that are offered. The
table holds, in the order of the directory, the entries with a slot up to 99 that no earlier place names. An entry is valid where k is 3 to
5, the format at most 5, Cimg 1 to 84, the heads 1 or 2, and the image ends within the card; its other fields are clamped. Each field of the
configuration is its stored value taken to the nearest bound of its range, and quota B at most 8 minus quota A. Of the overrides, one that
names an encoding and a kind takes its place in the table, with a count of at most 3; every other place has its default. That an invalid
entry whose format code is above 5 takes the MFM defaults of its sync length and g2 is the model's choice (DESIGN CHOICE, log 48), and so
is that the resume slots are those of the copy as it was read, also after an eject between the two reads (DESIGN CHOICE, log 40). -/
def Obligations.DirectoryEndInstallsClampedConfiguration : Prop :=
  (∀ block : List Byte,
    let c := clampConfig block
    let byte := fun i => (byteAt block (128 + i)).toNat
    let word := fun i => byte i + 256 * byte (i + 1)
    let near := fun lo hi n : Nat => max lo (min hi n)
    c.enableB = decide (byte 0 ≠ 0) ∧ c.swapSel = decide (byte 1 ≠ 0) ∧ c.sharedMotor = decide (byte 2 ≠ 0) ∧
      c.changeMode = decide (byte 3 ≠ 0) ∧ c.cphys = near 40 84 (byte 4) ∧ c.autoDouble = decide (byte 5 ≠ 0) ∧
      c.spinUp = near 0 2000 (word 6) ∧ c.change = near 100 5000 (word 8) ∧ c.settle = near 1 50 (byte 10) ∧
      c.linger = near 0 30000 (word 12) ∧ c.park = near 1 60 (byte 14) ∧ c.quotaA = near 2 6 (byte 15) ∧
      c.quotaB = min (near 2 6 (byte 16)) (8 - c.quotaA) ∧ c.prefetch = decide (byte 17 ≠ 0) ∧
      c.overrides.length = min (byte 18) 8 ∧
      (∀ i, i < c.overrides.length →
        let at_ := fun j => byteAt block (160 + 12 * i + j)
        c.overrides[i]? = some ⟨at_ 0, at_ 1, at_ 2, at_ 3, at_ 4, at_ 5, at_ 6, at_ 7⟩) ∧
      40 ≤ c.cphys ∧ c.cphys ≤ 84 ∧ c.spinUp ≤ 2000 ∧ 100 ≤ c.change ∧ c.change ≤ 5000 ∧ 1 ≤ c.settle ∧ c.settle ≤ 50 ∧
      c.linger ≤ 30000 ∧ 1 ≤ c.park ∧ c.park ≤ 60 ∧ 2 ≤ c.quotaA ∧ c.quotaA ≤ 6 ∧ 2 ≤ c.quotaB ∧ c.quotaB ≤ 6 ∧
      c.quotaA + c.quotaB ≤ 8 ∧ c.overrides.length ≤ 8) ∧
  (∀ (overrides : List RawMark) (i : Fin 8),
    (overrides[i.val]? = none → (rebuildMarks overrides)[i] = defaultMarks[i]) ∧
    ∀ m : RawMark, overrides[i.val]? = some m →
      (1 < m.enc.toNat ∨ 3 < m.kind.toNat → (rebuildMarks overrides)[i] = defaultMarks[i]) ∧
      (m.enc.toNat ≤ 1 → m.kind.toNat ≤ 3 →
        (rebuildMarks overrides)[i] =
          { enc := if m.enc.toNat = 0 then .fm else .mfm,
            kind := if m.kind.toNat = 0 then .index else if m.kind.toNat = 1 then .ident else if m.kind.toNat = 2 then .data
              else .deleted,
            count := min m.count.toNat 3, preData := m.preData, preClock := m.preClock, ident := m.ident, idClock := m.idClock,
            mask := m.mask })) ∧
  (∀ (capacity : Nat) (bytes : List Byte),
    let e := parseEntry capacity bytes
    let byte := fun i => (byteAt bytes i).toNat
    e.slot = byte 0 ∧ e.format = byte 1 ∧ e.heads = byte 2 ∧ e.cimg = byte 3 ∧ e.base = leAt bytes 4 4 ∧
      e.rpm = max 250 (min 400 (leAt bytes 8 2)) ∧ e.k = byte 10 ∧
      e.sync = (if byte 11 = 0 then (if 3 ≤ byte 1 then 12 else 6) else min (byte 11) 16) ∧ e.fill = byteAt bytes 12 ∧
      e.g2 = (if byte 13 = 0 then (if 3 ≤ byte 1 then 22 else 11) else byte 13) ∧
      e.policy = (if byte 14 = 0 then .persist else if byte 14 = 1 then .scratch else .protect) ∧
      e.guardCount = min (byte 15) (byte 3) ∧ e.guardSide = (if byte 16 = 1 then .high else .low) ∧
      (e.valid = true ↔ 3 ≤ e.k ∧ e.k ≤ 5 ∧ e.format ≤ 5 ∧ 1 ≤ e.cimg ∧ e.cimg ≤ 84 ∧ 1 ≤ e.heads ∧ e.heads ≤ 2 ∧
        e.base + 1 + e.cimg * e.heads * 2 ^ e.k ≤ capacity)) ∧
  (∀ (capacity count : Nat) (dir : List Byte),
    let entry := fun i => parseEntry capacity ((dir.drop (64 * i)).take 64)
    let slot := fun i => (byteAt dir (64 * i)).toNat
    let taken := fun i => slot i ≤ 99 ∧ ∀ j, j < i → slot j ≠ slot i
    buildTable capacity count dir = ((List.range count).filter fun i => decide (taken i)).map entry ∧
      (∀ i, i < count → taken i → lookupEntry (buildTable capacity count dir) (slot i) = some (entry i)) ∧
      ∀ n, 99 < n ∨ (∀ i, i < count → slot i ≠ n) → lookupEntry (buildTable capacity count dir) n = none) ∧
  ∀ (s : State) (copy dir : List Byte),
    s.store.link.ended = some (.directory, dir) → s.store.images.catalogue = some copy →
    ∃ t, exec .directoryReadEnd s = .next t ∧
      s.Installed t copy (buildTable s.store.capacityOf (min (byteAt copy 9).toNat 100) dir)

/-- R87, R98, R130: at its safe point a unit goes to CHANGING with its pending request as target; it stops, loses its rotation parameters,
sets its change latch, and frees its CLEAN and FAULT lines. Slot, entry copy and present map are cleared unless the unit owns a HELD line,
which is kept. Its demands that have not started are cancelled: the FILLING line of such a demand is FREE and its request is withdrawn; any
other FILLING line of the unit, whose fill is IN FLIGHT, takes the abandoned mark. -/
def Obligations.SafePointUnmounts : Prop :=
  ∀ (u : Drive) (s : State),
    (s.store.unit u).mount.state = .unmounting → s.store.spanBound u = false → s.store.claimKey u = [] →
    (∀ l, (s.store.line l).owner = some u → (s.store.line l).state ≠ .dirty ∧ (s.store.line l).state ≠ .writing) →
    ∃ t, exec (.safePoint u) s = .next t ∧ t.pending = s.pending ∧ t.mech.pins = s.mech.pins ∧
      (t.mech.unit u).rot = { Rotation.reset with params := none } ∧
      (t.mech.unit u).lines = { (s.mech.unit u).lines with latch := true } ∧
      t.mech.unit u.other = s.mech.unit u.other ∧
      (let before := (s.store.unit u).mount
      let holds := ∃ l, (s.store.line l).owner = some u ∧ (s.store.line l).state = .held
      let changing := fun m : Mount => { m with
        state := .changingInterval, ratio := 1, target := before.pending, pending := none,
        timer := some (24000 * s.store.images.config.change) }
      (holds → (t.store.unit u).mount = changing before) ∧ (¬holds → (t.store.unit u).mount = changing Mount.reset)) ∧
      (let gone := fun l : Fin 8 =>
        ∃ d ∈ (s.store.unit u).demands, d.stage ≠ .inFlight ∧ d.line = some l ∧ (s.store.line l).state = .filling
      (∀ l, gone l → t.store.line l = Line.free ∧
        (∀ r ∈ t.store.link.demandQ, r.line ≠ l) ∧ ∀ r ∈ t.store.link.prefetchQ, r.line ≠ l) ∧
      ∀ l, ¬gone l → (s.store.line l).owner = some u →
        ((s.store.line l).state = .filling → t.store.line l = { s.store.line l with abandoned := true }) ∧
        ((s.store.line l).state = .held → t.store.line l = s.store.line l)) ∧
      (s.store.CacheOk →
        (t.store.unit u).demands = (s.store.unit u).demands.filter fun d => decide (d.stage = .inFlight)) ∧
      (t.store.unit u).cylKeys = [] ∧ (t.store.unit u).linger = none ∧
      (∀ l, (s.store.line l).owner = some u → (s.store.line l).state = .clean ∨ (s.store.line l).state = .fault →
        t.store.line l = Line.free) ∧
      (∀ l, (s.store.line l).owner = some u.other → (∀ d ∈ (s.store.unit u).demands, d.line ≠ some l) →
        t.store.line l = s.store.line l)

/-- R123, R131, R133: the change interval's expiry looks up the target. While the card is lost, or its catalogue read has not ended, the
unit is HELD if it owns a line and EMPTY if not, with the target as its pending request. A slot absent from the table leaves it EMPTY; a
slot that the other unit holds, owns a line of or looks up gives E4 and leaves it EMPTY; an invalid entry gives E3 and leaves it EMPTY. For
an enabled unit any other entry has its image header read, which wakes a parked link; a unit that the configuration has disabled is EMPTY
with no code, which is the model's choice (DESIGN CHOICE, log 30). An eject leaves the unit HELD if it owns a line and EMPTY if not, with no
resume slot, and asks for a resume write where the card is available and unlocked with a valid catalogue: one at most waits, and one more
follows a write in transfer. -/
def Obligations.ChangeIntervalExpiryLooksUp : Prop :=
  ∀ (u : Drive) (s : State), (s.store.unit u).mount.state = .changingInterval →
    let mount := (s.store.unit u).mount
    let put := fun m : Mount => s.store.setUnit u { s.store.unit u with mount := m }
    let heldMount : Mount := { mount with state := .held, ratio := 1, target := none, timer := none }
    let emptied := put { Mount.reset with pending := mount.pending }
    let owns := ∃ l, (s.store.line l).owner = some u
    let give := fun (st : Store) (code : FaultCode) => { st with panel := { st.panel with code := some code, faultOn := true } }
    (∀ n : Nat, mount.target = some (.slot n) →
      (s.store.cardLost = true ∨ s.store.images.reading = true →
        (¬owns → exec (.changeIntervalExpiry u) s = .next (State.settlePark
          { s with store := put { Mount.reset with pending := some (.slot n) } })) ∧
        (owns → exec (.changeIntervalExpiry u) s = .next (State.settlePark
          { s with store := put { heldMount with pending := some (.slot n) } }))) ∧
      (s.store.cardLost = false → s.store.images.reading = false →
        (lookupEntry s.store.images.table n = none →
          exec (.changeIntervalExpiry u) s = .next (State.settlePark { s with store := emptied })) ∧
        ∀ e : Entry, lookupEntry s.store.images.table n = some e →
          let other := (s.store.unit u.other).mount
          let taken := ((other.state = .mounted ∨ other.state = .unmounting ∨ other.state = .held) ∧ other.slot = some n) ∨
            (∃ l k, (s.store.line l).owner = some u.other ∧ (s.store.line l).key = some k ∧ k.slot = n) ∨
            (other.state = .changingLookup ∧ other.target = some (.slot n))
          (taken → exec (.changeIntervalExpiry u) s = .next (State.settlePark { s with store := give emptied .e4 })) ∧
          (¬taken → e.valid = false →
            exec (.changeIntervalExpiry u) s = .next (State.settlePark { s with store := give emptied .e3 })) ∧
          (¬taken → e.valid = true → s.store.images.config.enabled u = false →
            exec (.changeIntervalExpiry u) s = .next (State.settlePark { s with store := emptied })) ∧
          (¬taken → e.valid = true → s.store.images.config.enabled u = true →
            exec (.changeIntervalExpiry u) s = .next
              { s with store :=
                { put { mount with state := .changingLookup, timer := none } with
                  link := { s.store.link with
                    state := if s.store.link.state = .parked then .idle else s.store.link.state,
                    catQ := s.store.link.catQ ++ [.imageHeader u e.base], park := none } } }))) ∧
    (mount.target = some .eject →
      ∃ t, exec (.changeIntervalExpiry u) s = .next t ∧ t.mech = s.mech ∧ t.pending = s.pending ∧
        (¬owns → (t.store.unit u).mount = { Mount.reset with pending := mount.pending }) ∧
        (owns → (t.store.unit u).mount = heldMount) ∧
        (t.store.unit u).resume = none ∧ t.store.unit u.other = s.store.unit u.other ∧ t.store.lines = s.store.lines ∧
        let may := s.store.link.available = true ∧ s.store.link.lock ≠ some true ∧ s.store.images.catalogue.isSome = true ∧
          s.store.images.reading = false
        let inTransfer := ∃ w, s.store.link.current = some (.write w) ∧ w.job = .resume
        (may → ¬inTransfer → t.store.link.catQ =
          if CatReq.resume ∈ s.store.link.catQ then s.store.link.catQ else s.store.link.catQ ++ [.resume]) ∧
        (may → inTransfer → t.store.images.resumeAgain = true) ∧
        (¬may → t.store.link.catQ = s.store.link.catQ ∧ t.store.images = s.store.images))

/-- R24, R125, R131, R132, R133: an image header that matches mounts the image with its entry, its present map and its rotation parameters,
makes its slot the resume slot and asks for the resume write as an eject does; it is an arrival with the head where it stands (R85), whose
cylinder keys each have a line or a demand. With the motor input asserted it starts the spin-up, or, with a spin-up time of 0, the rotation
at p = 0, with RDATA silent while no line of the slot is resident. One that does not leaves the unit EMPTY with E3. No request waits in this
statement. -/
def Obligations.ImageHeaderEndMounts : Prop :=
  ∀ (u : Drive) (s : State) (n : Nat) (e : Entry) (block : List Byte),
    s.store.link.ended = some (.imageHeader u, block) → (s.store.unit u).mount.state = .changingLookup →
    (s.store.unit u).mount.target = some (.slot n) → (s.store.unit u).mount.pending = none →
    lookupEntry s.store.images.table n = some e →
    (headerMatches e block = true →
      ∃ t, exec .imageHeaderReadEnd s = .next t ∧ t.pending = s.pending ∧ t.mech.pins = s.mech.pins ∧
        t.mech.unit u.other = s.mech.unit u.other ∧ (t.mech.unit u).lines = (s.mech.unit u).lines ∧
        (t.store.unit u).mount =
          { state := .mounted, slot := some e.slot, entry := some e, map := some (headerMap block),
            ratio := if s.store.images.config.autoDouble = true ∧ 2 * e.cimg ≤ s.store.images.config.cphys then 2 else 1,
            target := none, pending := none, timer := none } ∧
        (t.store.unit u).resume = some e.slot ∧ (t.mech.unit u).rot.params = some (rotParams e) ∧
        ((s.mech.unit u).lines.motorIn = false → (t.mech.unit u).rot.state = .stopped) ∧
        ((s.mech.unit u).lines.motorIn = true → 0 < s.store.images.config.spinUp →
          (t.mech.unit u).rot.state = .spinning ∧
            (t.mech.unit u).rot.spinUp = some (24000 * s.store.images.config.spinUp)) ∧
        ((s.mech.unit u).lines.motorIn = true → s.store.images.config.spinUp = 0 →
          (t.mech.unit u).rot =
              { state := .rotating, params := some (rotParams e), spinUp := none, p := 0, divider := 0 } ∧
            (s.mech.cursor.source = some u → (∀ k, k.slot = e.slot → s.store.residentOf k = none) →
              t.mech.cursor = { source := some u, line := none, emitting := false, prev := false, cells := 0 })) ∧
        (s.mech.cursor.source ≠ some u ∨ (s.mech.unit u).lines.motorIn = false ∨ 0 < s.store.images.config.spinUp →
          t.mech.cursor = s.mech.cursor) ∧
        let head := (s.mech.unit u).lines.head
        let ratio := (t.store.unit u).mount.ratio
        (e.heads ≤ 2 → (t.store.unit u).cylKeys =
          if head % ratio = 0 ∧ head / ratio < e.cimg then (List.range e.heads).map fun h => ⟨e.slot, head / ratio, h⟩ else []) ∧
        (s.store.link.available = true → (s.store.unit u).demands = [] →
          ∀ k ∈ (t.store.unit u).cylKeys, (t.store.lineOf k).isSome = true ∨ t.store.demanded u k = true) ∧
        let may := s.store.link.available = true ∧ s.store.link.lock ≠ some true ∧ s.store.images.catalogue.isSome = true ∧
          s.store.images.reading = false
        let inTransfer := ∃ w, s.store.link.current = some (.write w) ∧ w.job = .resume
        (may → ¬inTransfer → t.store.link.catQ =
          if CatReq.resume ∈ s.store.link.catQ then s.store.link.catQ else s.store.link.catQ ++ [.resume]) ∧
        (may → inTransfer → t.store.images.resumeAgain = true) ∧
        (¬may → t.store.link.catQ = s.store.link.catQ ∧ t.store.images = s.store.images)) ∧
    (headerMatches e block = false →
      exec .imageHeaderReadEnd s = .next (State.settlePark
        { s with store :=
          { s.store.setUnit u { s.store.unit u with mount := Mount.reset } with
            link := { s.store.link with ended := none },
            panel := { s.store.panel with code := some .e3, faultOn := true } } }))

/-- R114, R125, R181: the image header block of a present-map write matches its entry and gives back the map with the track's bit set and
every other bit as it was. -/
def Obligations.PresentMapWriteReadsBack : Prop :=
  ∀ (e : Entry) (map : BitVec 168) (t : Nat), e.slot < 256 → e.cimg < 256 → e.heads < 256 → t < 168 →
    let block := imageHeaderBlock e (setMapBit map t)
    block.length = 512 ∧ headerMatches e block = true ∧
      ∀ i, (headerMap block).getLsbD i = (decide (i = t) || map.getLsbD i)

/-! ### Panel (10) -/

/-- R171, R173, R178: the first press of a key begins a gesture, which LOAD times with 2 s. While the fault display is on it clears the
display and spends the gesture instead; while a restart is pending it cancels the restart and its drain, and spends the gesture (R176).
Each further press joins: UP and DOWN together, the gesture not spent, are timed with 2 s and UNIT and LOAD with 3 s; any other joining key
spends the gesture. A press of UNIT or LOAD restarts the 10 s of a candidate that is set (its reading of other keys is the model's choice,
log 22). A press that falls together with a restart that was taken first begins none: its key is ignored until released (R176; that the two
fall together while no master clock has been counted is the model's choice, log 41). -/
def Obligations.KeyPressBeginsGesture : Prop :=
  ∀ (s : State) (k : Key), s.mech.pins.keys.has k = false →
    let mech := { s.mech with pins := { s.mech.pins with keys := s.mech.pins.keys.put k true } }
    let panel := s.store.panel
    let candTimer := if (k = .kUnit ∨ k = .kLoad) ∧ panel.candidate.isSome = true then some 240000000 else panel.candTimer
    (panel.justReset = false → s.mech.pins.keys = KeySet.empty → panel.gesture = none →
      let key : KeySet := ⟨k = .kUnit, k = .kDown, k = .kUp, k = .kLoad⟩
      (panel.faultOn = true →
        exec (.keyPress k) s = .next (State.settlePark
          { s with mech := mech, store := { s.store with panel :=
            { panel with faultOn := false, gesture := some ⟨key, none, true⟩, candTimer := candTimer } } })) ∧
      (panel.faultOn = false → panel.restart = true →
        exec (.keyPress k) s = .next (State.settlePark
          { s with mech := mech, store := { s.store with
            wb := { s.store.wb with drain := false },
            panel := { panel with restart := false, gesture := some ⟨key, none, true⟩, candTimer := candTimer } } })) ∧
      (panel.faultOn = false → panel.restart = false →
        exec (.keyPress k) s = .next (State.settlePark
          { s with mech := mech, store := { s.store with panel :=
            { panel with
              gesture := some ⟨key, if k = .kLoad then some 48000000 else none, false⟩, candTimer := candTimer } } }))) ∧
    (∀ g : Gesture, panel.justReset = false → panel.gesture = some g →
      let keys := g.keys.put k true
      let joined : Gesture :=
        if g.spent = true then { g with keys := keys }
        else if keys = ⟨false, true, true, false⟩ then ⟨keys, some 48000000, false⟩
        else if keys = ⟨true, false, false, true⟩ then ⟨keys, some 72000000, false⟩
        else ⟨keys, none, true⟩
      exec (.keyPress k) s = .next (State.settlePark
        { s with mech := mech, store := { s.store with panel :=
          { panel with gesture := some joined, candTimer := candTimer } } })) ∧
    (panel.justReset = true →
      exec (.keyPress k) s = .next (State.settlePark
        { s with mech := mech, store := { s.store with panel := { panel with ignored := panel.ignored.put k true } } }))

/-- R173, R177 to R179, R183: the release of UP, pressed alone, makes the smallest valid slot above the start point the candidate, or the
smallest of all where none is above or there is no start point; DOWN the largest below it, or the largest of all; either starts its 10 s.
The start point is the candidate, or else the slot of the addressed unit where it is MOUNTED. With no valid slot the candidate stays, and
the timer of a candidate that is set starts again. The candidate timer's expiry makes the candidate none. The display shows the fault code;
or else the pending restart; or else the addressed unit's letter and the candidate, or what the mount state gives, with what flashes; and
the two points. A unit's LED is lit while an enabled unit is selected with its motor input asserted, and the card LED while the link is
BUSY. -/
def Obligations.CandidateFollowsUpAndDown : Prop :=
  (∀ (up : Bool) (s : State),
    let key : Key := if up then .kUp else .kDown
    let mount := (s.store.unit s.store.panel.addressed).mount
    let start := s.store.panel.candidate.or (if mount.state = .mounted then mount.slot else none)
    let slots := (s.store.images.table.filter fun e => e.valid).map Entry.slot
    let beyond := fun a b : Nat => if up then a < b else b < a
    let last := fun m : Nat => ∀ x ∈ slots, ¬beyond x m
    let released := fun panel : Panel => State.settlePark
      { s with mech := { s.mech with pins := { s.mech.pins with keys := KeySet.empty } }, store := { s.store with panel := panel } }
    s.mech.pins.keys = KeySet.one key → s.store.panel.gesture = some ⟨KeySet.one key, none, false⟩ →
    s.store.panel.ignored = KeySet.empty →
    (∀ m ∈ slots,
      ((∃ n, start = some n ∧ beyond n m ∧ ∀ x ∈ slots, beyond n x → ¬beyond x m) ∨
        (∃ n, start = some n ∧ (∀ x ∈ slots, ¬beyond n x) ∧ last m) ∨ (start = none ∧ last m)) →
      exec (.keyRelease key) s = .next (released
        { s.store.panel with gesture := none, candidate := some m, candTimer := some 240000000 })) ∧
    (slots = [] →
      exec (.keyRelease key) s = .next (released
        { s.store.panel with
          gesture := none,
          candTimer := if s.store.panel.candidate.isSome then some 240000000 else s.store.panel.candTimer }))) ∧
  (∀ s : State, s.store.panel.candTimer.isSome = true →
    exec .candidateTimerExpiry s = .next (State.settlePark
      { s with store := { s.store with panel := { s.store.panel with candidate := none, candTimer := none } } })) ∧
  ∀ s : State,
    let u := s.store.panel.addressed
    let mount := (s.store.unit u).mount
    let shows := fun x y z : Char × Bool =>
      s.display = (⟨x.1, x.2, (s.mech.unit u).lines.protect⟩, ⟨y.1, y.2, false⟩, ⟨z.1, z.2, decide (s.store.link.state = .parked)⟩)
    let digit := fun n : Nat => Char.ofNat (48 + n % 10)
    let letter : Char := if u = .a then 'A' else 'B'
    let shown := fun (flash : Bool) (r : Option MountReq) =>
      (∀ n, r = some (.slot n) → shows (letter, flash) (digit (n / 10), false) (digit n, false)) ∧
        (r = some .eject → shows (letter, flash) ('-', false) ('-', false))
    (∀ x ∈ [(FaultCode.e1, '1'), (.e2, '2'), (.e3, '3'), (.e4, '4'), (.e5, '5'), (.e6, '6'), (.e7, '7'), (.e8, '8'), (.e9, '9')],
      s.store.panel.faultOn = true → s.store.panel.code = some x.1 → shows ('E', false) (x.2, false) (' ', false)) ∧
    (s.store.panel.faultOn = false → s.store.panel.restart = true → shows ('r', false) ('S', false) ('t', false)) ∧
    (s.store.panel.faultOn = false → s.store.panel.restart = false →
      (∀ n, s.store.panel.candidate = some n → shows (letter, false) (digit (n / 10), true) (digit n, true)) ∧
      (s.store.panel.candidate = none →
        (mount.state = .held → shows (letter, false) ('H', false) ('d', false)) ∧
        (mount.state = .mounted → ∀ n, mount.slot = some n → shown false (some (.slot n))) ∧
        (mount.state = .unmounting → shown true mount.pending) ∧
        (mount.state = .changingInterval ∨ mount.state = .changingLookup → shown true mount.target) ∧
        (mount.state = .empty → shows (letter, false) ('-', false) ('-', false)))) ∧
    (∀ v, s.unitLed v = true ↔ s.store.images.config.enabled v = true ∧ (s.mech.unit v).lines.selected = true ∧
      (s.mech.unit v).lines.motorIn = true) ∧
    (s.cardLed = true ↔ s.store.link.state = .busy)

/-- R128, R171, R172, R174: the release of LOAD, pressed alone and short, sends the candidate to the addressed unit and clears it: a
MOUNTED unit is UNMOUNTING with the slot as its pending request and its DIRTY lines at the head of the queue (R106); a unit in UNMOUNTING,
in stage LOOKUP or HELD waits with it; an EMPTY unit without HELD lines starts its change interval with it as target (R130); in stage
INTERVAL it is the new target. Without a candidate it does nothing. The release of UNIT alone addresses the other unit while B is enabled,
and clears the candidate. -/
def Obligations.ReleasesSendRequests : Prop :=
  (∀ (s : State) (n : Nat) (tm : Option Nat), s.mech.pins.keys = KeySet.one .kLoad →
    s.store.panel.gesture = some ⟨KeySet.one .kLoad, tm, false⟩ → s.store.panel.ignored = KeySet.empty →
    s.store.panel.candidate = some n →
    let u := s.store.panel.addressed
    let mount := (s.store.unit u).mount
    let mech := { s.mech with pins := { s.mech.pins with keys := KeySet.empty } }
    let panel := { s.store.panel with gesture := none, candidate := none, candTimer := none }
    let put := fun m : Mount => { s.store.setUnit u { s.store.unit u with mount := m } with panel := panel }
    (mount.state = .mounted →
      exec (.keyRelease .kLoad) s = .next (State.settlePark
        { s with
          mech := mech,
          store := { put { mount with state := .unmounting, pending := some (.slot n) } with
            wb := { s.store.wb with
              queue := s.store.linesIn u .dirty ++
                s.store.wb.queue.filter fun l => !(s.store.linesIn u .dirty).contains l } } })) ∧
    (mount.state = .unmounting ∨ mount.state = .changingLookup ∨ mount.state = .held →
      exec (.keyRelease .kLoad) s = .next (State.settlePark
        { s with mech := mech, store := put { mount with pending := some (.slot n) } })) ∧
    (mount.state = .empty → s.store.linesIn u .held = [] →
      exec (.keyRelease .kLoad) s = .next (State.settlePark
        { s with
          mech := mech,
          store := put { Mount.reset with
            state := .changingInterval, target := some (.slot n), timer := some (24000 * s.store.images.config.change) } })) ∧
    (mount.state = .changingInterval →
      exec (.keyRelease .kLoad) s = .next (State.settlePark
        { s with mech := mech, store := put { mount with target := some (.slot n) } }))) ∧
  (∀ (s : State) (k : Key) (tm : Option Nat), k = .kLoad ∧ s.store.panel.candidate = none ∨ k = .kUnit →
    s.mech.pins.keys = KeySet.one k → s.store.panel.gesture = some ⟨KeySet.one k, tm, false⟩ →
    s.store.panel.ignored = KeySet.empty →
    exec (.keyRelease k) s = .next (State.settlePark
      { s with
        mech := { s.mech with pins := { s.mech.pins with keys := KeySet.empty } },
        store := { s.store with panel :=
          if k = .kUnit ∧ s.store.images.config.enableB = true then
            { s.store.panel with
              gesture := none, addressed := s.store.panel.addressed.other, candidate := none, candTimer := none }
          else { s.store.panel with gesture := none } } }))

/-- R171, R174 to R176: a hold timer's expiry spends the gesture. UP and DOWN held toggle the addressed unit's panel protect. LOAD held
clears the candidate and ejects a MOUNTED unit, with its DIRTY lines at the head of the queue (R106), or discards the HELD lines of a HELD
one with E8 (R101). UNIT and LOAD held start a restart: the drain is pending, with every DIRTY line in the queue (R108). -/
def Obligations.HoldActionsAreTaken : Prop :=
  ∀ (s : State) (g : Gesture), s.store.panel.gesture = some g → g.timer.isSome = true →
    let u := s.store.panel.addressed
    let panel := { s.store.panel with gesture := some { g with timer := none, spent := true } }
    (g.keys = KeySet.upDown →
      exec .holdTimerExpiry s = .next (State.settlePark
        { s with
          mech := s.mech.setUnit u
            { s.mech.unit u with lines := { (s.mech.unit u).lines with protect := !(s.mech.unit u).lines.protect } },
          store := { s.store with panel := panel } })) ∧
    (g.keys = KeySet.one .kLoad → (s.store.unit u).mount.state = .mounted →
      exec .holdTimerExpiry s = .next (State.settlePark
        { s with store :=
          { s.store.setUnit u { s.store.unit u with
              mount := { (s.store.unit u).mount with state := .unmounting, pending := some .eject } } with
            wb := { s.store.wb with
              queue := s.store.linesIn u .dirty ++
                s.store.wb.queue.filter fun l => !(s.store.linesIn u .dirty).contains l },
            panel := { panel with candidate := none, candTimer := none } } })) ∧
    (g.keys = KeySet.one .kLoad → (s.store.unit u).mount.state = .held → s.store.linesIn u .held ≠ [] →
      ∃ t, exec .holdTimerExpiry s = .next t ∧ t.mech = s.mech ∧
        t.store.panel = { panel with candidate := none, candTimer := none, code := some .e8, faultOn := true } ∧
        ∀ l, t.store.line l = if (s.store.line l).owner = some u ∧ (s.store.line l).state = .held then Line.free
          else s.store.line l) ∧
    (g.keys = KeySet.unitLoad →
      exec .holdTimerExpiry s = .next (State.settlePark
        { s with store := { s.store with
          panel := { panel with restart := true },
          wb := { s.store.wb with
            drain := true,
            queue := s.store.wb.queue ++ [0, 1, 2, 3, 4, 5, 6, 7].filter fun l =>
              decide ((s.store.line l).state = .dirty ∧ l ∉ s.store.wb.queue) } } }))

/-- R101, R108, R136, R176: a drain that finds no DIRTY and no WRITING line is complete; for a restart that waits for it the part is reset
as at power-on, with E8 afterwards if a line was HELD. That the restart is marked as of this moment, so that a press that falls together
with it finds its key down at the reset, is the model's way to say so (DESIGN CHOICE, log 41). -/
def Obligations.DrainCompleteRestarts : Prop :=
  ∀ s : State, s.store.wb.drain = true →
    (∀ l, (s.store.line l).state ≠ .dirty ∧ (s.store.line l).state ≠ .writing) →
    (s.store.panel.restart = true →
      ∃ t, exec .powerOnReset s = .next t ∧
        ((∀ l, (s.store.line l).state ≠ .held) →
          exec .drainComplete s = .next
            { t with store := { t.store with panel := { t.store.panel with justReset := true } } }) ∧
        ((∃ l, (s.store.line l).state = .held) →
          exec .drainComplete s = .next
            { t with store := { t.store with panel := { t.store.panel with
              justReset := true, code := some .e8, faultOn := true } } })) ∧
    (s.store.panel.restart = false →
      exec .drainComplete s = .next (State.settlePark
        { s with store := { s.store with wb := { s.store.wb with drain := false } } }))

/-! ### Track records (01) -/

/-- R9 to R12: the layout check walks the list with a cursor, which starts at the end of the presented index mark, or at 0. Each sector
takes the greater of its position and the cursor, held at 65535; it is shifted exactly where that differs from its position, and overflow
exactly where its footprint then ends after T; the cursor goes on to the end of the footprint. Nothing else of the record changes (R10;
that the fault flags too stay as they were, although R45 says that the layout check sets and clears them, is the model's choice between the
two sentences: DESIGN CHOICE, log 49). So each
sector stands at or after its stored position, a presented one ends at or before T and lies clear of the presented index mark, no two
presented ones share a position, and the overflow sectors are a suffix of the list. -/
def Obligations.LayoutCheckSeparatesSectors : Prop :=
  ∀ (t : Nat) (r : TrackRecord), t ≤ 65535 →
    let after := (layoutCheck t r).sectors
    let presented := fun i : Nat => r.indexPos = some i ∧ i + indexLength r.enc r.sync ≤ t
    layoutCheck t r = { r with sectors := after } ∧ after.length = r.sectors.length ∧
    (∃ cursor : Nat → Nat,
      (∀ i, presented i → cursor 0 = i + indexLength r.enc r.sync) ∧ ((∀ i, ¬presented i) → cursor 0 = 0) ∧
      ∀ (i : Nat) (x : Sector), r.sectors[i]? = some x →
        let moved := max x.pos (cursor i)
        let pos := min moved 65535
        cursor (i + 1) = moved + footprint r.enc r.sync x ∧
        after[i]? = some
          { x with pos := pos, shifted := decide (moved ≠ x.pos), overflow := decide (t < pos + footprint r.enc r.sync x) }) ∧
    (∀ (i : Nat) (x : Sector), r.sectors[i]? = some x → x.pos ≤ 65535 →
      ∃ y, after[i]? = some y ∧ x.pos ≤ y.pos ∧ (y.overflow = false → y.pos + footprint r.enc r.sync y ≤ t)) ∧
    (∀ (i : Nat) (y : Sector) (m : Nat), after[i]? = some y → y.overflow = false → presented m →
      m + indexLength r.enc r.sync ≤ y.pos) ∧
    ∀ (i j : Nat) (x y : Sector), i < j → after[i]? = some x → after[j]? = some y →
      (x.overflow = true → y.overflow = true) ∧
      (x.overflow = false → y.overflow = false → x.pos + footprint r.enc r.sync x ≤ y.pos)

/-- R16, R17, R19, R182: the record string of a record that fits its slot, written with a given truncated flag and with 00 after it, loads
back as the record that the layout check makes of it, with that flag. A whole-form pass writes the flag clear (R116), so what it writes is
what a later fill gives. While a block of a write is in transfer the link sends that block's 512 bytes and their link check (R143): of a
record block those of the string, in whole form all sectors with the flag clear, in truncated form the leading sectors that fit the slot
with the flag set, and 00 beyond its end (R110, R115, R116); of any other block the bytes it was opened with. Otherwise it sends none. That
a record block is read from the record as it stands is the model's reading (DEDUCED, log 16), and so is that any other block sends the
same bytes on every attempt (DEDUCED, log 29). -/
def Obligations.RecordStringLoadsBack : Prop :=
  (∀ (e : Entry) (r : TrackRecord) (flag : Bool) (pad : Nat),
    r.blank = false → r.enc = e.enc → r.key.slot < 256 → r.key.cyl < 256 → r.key.head < 256 → 1 ≤ r.sync → r.sync ≤ 16 →
    r.sectors.length ≤ 64 → recordLength r ≤ e.slotBytes → (∀ p, r.indexPos = some p → p ≤ 65535) →
    (∀ x ∈ r.sectors, x.pos ≤ 65535 ∧
      ∀ part, x.data = some part →
        idLength r.enc r.sync ≤ part.d ∧ part.d ≤ 65535 ∧ part.bytes.length = dataLen x.n) →
    storedHeaderOk e r.key (recordBytes r r.sectors flag) = true ∧
      loadRecord e r.key (recordBytes r r.sectors flag ++ List.replicate pad 0) =
        some (layoutCheck e.trackLen { r with truncated := flag })) ∧
  (∀ (slot : Nat) (xs : List Sector), 64 ≤ slot →
    ∃ q, fitSectors slot xs = xs.take q ∧ q ≤ xs.length ∧ listLength (xs.take q) ≤ slot ∧
      ∀ j, q < j → j ≤ xs.length → slot < listLength (xs.take j)) ∧
  ∀ (s : Store) (t : WriteTxn), s.link.current = some (.write t) →
    (t.phase ≠ .transfer → s.outgoingBlock = none) ∧
    (t.phase = .transfer → t.job ≠ .record → s.outgoingBlock = some (t.block, t.data, crcOf 0 t.data)) ∧
    ∀ (l : Fin 8) (u : Drive) (e : Entry) (r : TrackRecord) (key : TrackKey) (b : Nat),
      t.phase = .transfer → t.job = .record → s.PassAt l u e r key → s.wb.cursor = some b →
      let string := if s.wb.truncForm then recordBytes r (fitSectors e.slotBytes r.sectors) true else recordBytes r r.sectors false
      ∃ bytes : List Byte, s.outgoingBlock = some (t.block, bytes, crcOf 0 bytes) ∧ bytes.length = 512 ∧
        ∀ i, i < 512 → byteAt bytes i = byteAt string (512 * b + i)
end

