-- ==== Sys2Proof/Laws/State.lean ====
section
/-! SUPPORT. One lemma per field per update of the state: units, lines, pins, rotation timers, line interface, store and link. -/

namespace Sys2Proof.Machine

/-! ### Units of the store -/

@[simp] theorem Store.unit_a (s : Store) : s.unit .a = s.a := rfl
@[simp] theorem Store.unit_b (s : Store) : s.unit .b = s.b := rfl

@[simp] theorem Store.setUnit_unit (s : Store) (u : Drive) (x : UnitStore) : (s.setUnit u x).unit u = x := by cases u <;> rfl
@[simp] theorem Store.setUnit_other (s : Store) (u : Drive) (x : UnitStore) : (s.setUnit u x).unit u.other = s.unit u.other := by
  cases u <;> rfl
@[simp] theorem Store.setUnit_lines (s : Store) (u : Drive) (x : UnitStore) : (s.setUnit u x).lines = s.lines := by cases u <;> rfl
@[simp] theorem Store.setUnit_line (s : Store) (u : Drive) (x : UnitStore) (l : Fin 8) : (s.setUnit u x).line l = s.line l := by
  cases u <;> rfl
@[simp] theorem Store.setUnit_staging (s : Store) (u : Drive) (x : UnitStore) : (s.setUnit u x).staging = s.staging := by
  cases u <;> rfl
@[simp] theorem Store.setUnit_decoder (s : Store) (u : Drive) (x : UnitStore) : (s.setUnit u x).decoder = s.decoder := by
  cases u <;> rfl
@[simp] theorem Store.setUnit_marks (s : Store) (u : Drive) (x : UnitStore) : (s.setUnit u x).marks = s.marks := by cases u <;> rfl
@[simp] theorem Store.setUnit_wb (s : Store) (u : Drive) (x : UnitStore) : (s.setUnit u x).wb = s.wb := by cases u <;> rfl
@[simp] theorem Store.setUnit_images (s : Store) (u : Drive) (x : UnitStore) : (s.setUnit u x).images = s.images := by
  cases u <;> rfl
@[simp] theorem Store.setUnit_link (s : Store) (u : Drive) (x : UnitStore) : (s.setUnit u x).link = s.link := by cases u <;> rfl
@[simp] theorem Store.setUnit_panel (s : Store) (u : Drive) (x : UnitStore) : (s.setUnit u x).panel = s.panel := by cases u <;> rfl

@[simp] theorem Store.modUnit_unit (s : Store) (u : Drive) (f : UnitStore → UnitStore) : (s.modUnit u f).unit u = f (s.unit u) := by
  simp [Store.modUnit]
@[simp] theorem Store.modUnit_other (s : Store) (u : Drive) (f : UnitStore → UnitStore) :
    (s.modUnit u f).unit u.other = s.unit u.other := by
  simp [Store.modUnit]
@[simp] theorem Store.modUnit_lines (s : Store) (u : Drive) (f : UnitStore → UnitStore) : (s.modUnit u f).lines = s.lines := by
  simp [Store.modUnit]
@[simp] theorem Store.modUnit_line (s : Store) (u : Drive) (f : UnitStore → UnitStore) (l : Fin 8) :
    (s.modUnit u f).line l = s.line l := by
  simp [Store.modUnit]
@[simp] theorem Store.modUnit_staging (s : Store) (u : Drive) (f : UnitStore → UnitStore) : (s.modUnit u f).staging = s.staging := by
  simp [Store.modUnit]
@[simp] theorem Store.modUnit_decoder (s : Store) (u : Drive) (f : UnitStore → UnitStore) : (s.modUnit u f).decoder = s.decoder := by
  simp [Store.modUnit]
@[simp] theorem Store.modUnit_marks (s : Store) (u : Drive) (f : UnitStore → UnitStore) : (s.modUnit u f).marks = s.marks := by
  simp [Store.modUnit]
@[simp] theorem Store.modUnit_wb (s : Store) (u : Drive) (f : UnitStore → UnitStore) : (s.modUnit u f).wb = s.wb := by
  simp [Store.modUnit]
@[simp] theorem Store.modUnit_images (s : Store) (u : Drive) (f : UnitStore → UnitStore) : (s.modUnit u f).images = s.images := by
  simp [Store.modUnit]
@[simp] theorem Store.modUnit_link (s : Store) (u : Drive) (f : UnitStore → UnitStore) : (s.modUnit u f).link = s.link := by
  simp [Store.modUnit]
@[simp] theorem Store.modUnit_panel (s : Store) (u : Drive) (f : UnitStore → UnitStore) : (s.modUnit u f).panel = s.panel := by
  simp [Store.modUnit]

/-! ### Lines of the cache -/

@[simp] theorem Store.setLine_line (s : Store) (l : Fin 8) (x : Line) : (s.setLine l x).line l = x := by
  simp [Store.setLine, Store.line]
theorem Store.setLine_line_ne (s : Store) {l k : Fin 8} (h : l ≠ k) (x : Line) : (s.setLine l x).line k = s.line k := by
  have h' : l.val ≠ k.val := fun e => h (Fin.ext e)
  simp [Store.setLine, Store.line, Vector.getElem_set_ne, h']
@[simp] theorem Store.setLine_unit (s : Store) (l : Fin 8) (x : Line) (u : Drive) : (s.setLine l x).unit u = s.unit u := by
  cases u <;> rfl
@[simp] theorem Store.setLine_staging (s : Store) (l : Fin 8) (x : Line) : (s.setLine l x).staging = s.staging := rfl
@[simp] theorem Store.setLine_decoder (s : Store) (l : Fin 8) (x : Line) : (s.setLine l x).decoder = s.decoder := rfl
@[simp] theorem Store.setLine_marks (s : Store) (l : Fin 8) (x : Line) : (s.setLine l x).marks = s.marks := rfl
@[simp] theorem Store.setLine_wb (s : Store) (l : Fin 8) (x : Line) : (s.setLine l x).wb = s.wb := rfl
@[simp] theorem Store.setLine_images (s : Store) (l : Fin 8) (x : Line) : (s.setLine l x).images = s.images := rfl
@[simp] theorem Store.setLine_link (s : Store) (l : Fin 8) (x : Line) : (s.setLine l x).link = s.link := rfl
@[simp] theorem Store.setLine_panel (s : Store) (l : Fin 8) (x : Line) : (s.setLine l x).panel = s.panel := rfl

@[simp] theorem Store.modLine_line (s : Store) (l : Fin 8) (f : Line → Line) : (s.modLine l f).line l = f (s.line l) := by
  simp [Store.modLine]
theorem Store.modLine_line_ne (s : Store) {l k : Fin 8} (h : l ≠ k) (f : Line → Line) : (s.modLine l f).line k = s.line k :=
  s.setLine_line_ne h _
@[simp] theorem Store.modLine_unit (s : Store) (l : Fin 8) (f : Line → Line) (u : Drive) : (s.modLine l f).unit u = s.unit u := by
  simp [Store.modLine]
@[simp] theorem Store.modLine_wb (s : Store) (l : Fin 8) (f : Line → Line) : (s.modLine l f).wb = s.wb := rfl
@[simp] theorem Store.modLine_link (s : Store) (l : Fin 8) (f : Line → Line) : (s.modLine l f).link = s.link := rfl
@[simp] theorem Store.modLine_panel (s : Store) (l : Fin 8) (f : Line → Line) : (s.modLine l f).panel = s.panel := rfl
@[simp] theorem Store.modLine_marks (s : Store) (l : Fin 8) (f : Line → Line) : (s.modLine l f).marks = s.marks := rfl
@[simp] theorem Store.modLine_images (s : Store) (l : Fin 8) (f : Line → Line) : (s.modLine l f).images = s.images := rfl
@[simp] theorem Store.modLine_staging (s : Store) (l : Fin 8) (f : Line → Line) : (s.modLine l f).staging = s.staging := rfl
@[simp] theorem Store.modLine_decoder (s : Store) (l : Fin 8) (f : Line → Line) : (s.modLine l f).decoder = s.decoder := rfl

/-! ### Panel and link -/

@[simp] theorem Store.giveCode_code (s : Store) (c : FaultCode) : (s.giveCode c).panel.code = some c := rfl
@[simp] theorem Store.giveCode_faultOn (s : Store) (c : FaultCode) : (s.giveCode c).panel.faultOn = true := rfl
@[simp] theorem Store.giveCode_gesture (s : Store) (c : FaultCode) : (s.giveCode c).panel.gesture = s.panel.gesture := rfl
@[simp] theorem Store.giveCode_unit (s : Store) (c : FaultCode) (u : Drive) : (s.giveCode c).unit u = s.unit u := by cases u <;> rfl
@[simp] theorem Store.giveCode_line (s : Store) (c : FaultCode) (l : Fin 8) : (s.giveCode c).line l = s.line l := rfl
@[simp] theorem Store.giveCode_link (s : Store) (c : FaultCode) : (s.giveCode c).link = s.link := rfl
@[simp] theorem Store.giveCode_wb (s : Store) (c : FaultCode) : (s.giveCode c).wb = s.wb := rfl
@[simp] theorem Store.giveCode_images (s : Store) (c : FaultCode) : (s.giveCode c).images = s.images := rfl
@[simp] theorem Store.giveCode_marks (s : Store) (c : FaultCode) : (s.giveCode c).marks = s.marks := rfl
@[simp] theorem Store.modLink_marks (s : Store) (f : Link → Link) : (s.modLink f).marks = s.marks := rfl
@[simp] theorem Store.modPanel_marks (s : Store) (f : Panel → Panel) : (s.modPanel f).marks = s.marks := rfl
@[simp] theorem Store.modLink_link (s : Store) (f : Link → Link) : (s.modLink f).link = f s.link := rfl
@[simp] theorem Store.modLink_unit (s : Store) (f : Link → Link) (u : Drive) : (s.modLink f).unit u = s.unit u := by cases u <;> rfl
@[simp] theorem Store.modLink_line (s : Store) (f : Link → Link) (l : Fin 8) : (s.modLink f).line l = s.line l := rfl
@[simp] theorem Store.modLink_wb (s : Store) (f : Link → Link) : (s.modLink f).wb = s.wb := rfl
@[simp] theorem Store.modLink_images (s : Store) (f : Link → Link) : (s.modLink f).images = s.images := rfl
@[simp] theorem Store.modLink_panel (s : Store) (f : Link → Link) : (s.modLink f).panel = s.panel := rfl
@[simp] theorem Store.modPanel_panel (s : Store) (f : Panel → Panel) : (s.modPanel f).panel = f s.panel := rfl
@[simp] theorem Store.modPanel_link (s : Store) (f : Panel → Panel) : (s.modPanel f).link = s.link := rfl
@[simp] theorem Store.modPanel_wb (s : Store) (f : Panel → Panel) : (s.modPanel f).wb = s.wb := rfl
@[simp] theorem Store.modPanel_images (s : Store) (f : Panel → Panel) : (s.modPanel f).images = s.images := rfl
@[simp] theorem Store.modPanel_unit (s : Store) (f : Panel → Panel) (u : Drive) : (s.modPanel f).unit u = s.unit u := by
  cases u <;> rfl
@[simp] theorem Store.modPanel_line (s : Store) (f : Panel → Panel) (l : Fin 8) : (s.modPanel f).line l = s.line l := rfl

/-! ### Units of the mechanism -/

@[simp] theorem Mech.unit_a (m : Mech) : m.unit .a = m.a := rfl
@[simp] theorem Mech.unit_b (m : Mech) : m.unit .b = m.b := rfl
@[simp] theorem Mech.setUnit_unit (m : Mech) (u : Drive) (x : UnitMech) : (m.setUnit u x).unit u = x := by cases u <;> rfl
@[simp] theorem Mech.setUnit_other (m : Mech) (u : Drive) (x : UnitMech) : (m.setUnit u x).unit u.other = m.unit u.other := by
  cases u <;> rfl
@[simp] theorem Mech.setUnit_pins (m : Mech) (u : Drive) (x : UnitMech) : (m.setUnit u x).pins = m.pins := by cases u <;> rfl
@[simp] theorem Mech.setUnit_cursor (m : Mech) (u : Drive) (x : UnitMech) : (m.setUnit u x).cursor = m.cursor := by cases u <;> rfl

@[simp] theorem Mech.modRot_rot (m : Mech) (u : Drive) (f : Rotation → Rotation) :
    ((m.modRot u f).unit u).rot = f (m.unit u).rot := by
  simp [Mech.modRot]
@[simp] theorem Mech.modRot_lines (m : Mech) (u v : Drive) (f : Rotation → Rotation) :
    ((m.modRot u f).unit v).lines = (m.unit v).lines := by
  cases u <;> cases v <;> rfl
@[simp] theorem Mech.modRot_other (m : Mech) (u : Drive) (f : Rotation → Rotation) :
    (m.modRot u f).unit u.other = m.unit u.other := by
  simp [Mech.modRot]
@[simp] theorem Mech.modRot_pins (m : Mech) (u : Drive) (f : Rotation → Rotation) : (m.modRot u f).pins = m.pins := by
  simp [Mech.modRot]
@[simp] theorem Mech.modRot_cursor (m : Mech) (u : Drive) (f : Rotation → Rotation) : (m.modRot u f).cursor = m.cursor := by
  simp [Mech.modRot]
@[simp] theorem Mech.modLines_lines (m : Mech) (u : Drive) (f : UnitLines → UnitLines) :
    ((m.modLines u f).unit u).lines = f (m.unit u).lines := by
  simp [Mech.modLines]
@[simp] theorem Mech.modLines_rot (m : Mech) (u v : Drive) (f : UnitLines → UnitLines) :
    ((m.modLines u f).unit v).rot = (m.unit v).rot := by
  cases u <;> cases v <;> rfl
@[simp] theorem Mech.modLines_other (m : Mech) (u : Drive) (f : UnitLines → UnitLines) :
    (m.modLines u f).unit u.other = m.unit u.other := by
  simp [Mech.modLines]
@[simp] theorem Mech.modLines_pins (m : Mech) (u : Drive) (f : UnitLines → UnitLines) : (m.modLines u f).pins = m.pins := by
  simp [Mech.modLines]
@[simp] theorem Mech.modLines_cursor (m : Mech) (u : Drive) (f : UnitLines → UnitLines) : (m.modLines u f).cursor = m.cursor := by
  simp [Mech.modLines]

/-! ### The whole state -/

@[simp] theorem State.modStore_store (s : State) (f : Store → Store) : (s.modStore f).store = f s.store := rfl
@[simp] theorem State.modStore_mech (s : State) (f : Store → Store) : (s.modStore f).mech = s.mech := rfl
@[simp] theorem State.modStore_pending (s : State) (f : Store → Store) : (s.modStore f).pending = s.pending := rfl
@[simp] theorem State.modMech_store (s : State) (f : Mech → Mech) : (s.modMech f).store = s.store := rfl
@[simp] theorem State.modMech_mech (s : State) (f : Mech → Mech) : (s.modMech f).mech = f s.mech := rfl
@[simp] theorem State.modMech_pending (s : State) (f : Mech → Mech) : (s.modMech f).pending = s.pending := rfl
@[simp] theorem State.modRot_store (s : State) (u : Drive) (f : Rotation → Rotation) : (s.modRot u f).store = s.store := rfl
@[simp] theorem State.modRot_mech (s : State) (u : Drive) (f : Rotation → Rotation) : (s.modRot u f).mech = s.mech.modRot u f := rfl
@[simp] theorem State.modRot_pending (s : State) (u : Drive) (f : Rotation → Rotation) : (s.modRot u f).pending = s.pending := rfl
@[simp] theorem State.modLines_store (s : State) (u : Drive) (f : UnitLines → UnitLines) : (s.modLines u f).store = s.store := rfl
@[simp] theorem State.modLines_mech (s : State) (u : Drive) (f : UnitLines → UnitLines) :
    (s.modLines u f).mech = s.mech.modLines u f := rfl
@[simp] theorem State.modLines_pending (s : State) (u : Drive) (f : UnitLines → UnitLines) : (s.modLines u f).pending = s.pending :=
  rfl
@[simp] theorem State.modPins_store (s : State) (f : Pins → Pins) : (s.modPins f).store = s.store := rfl
@[simp] theorem State.modPins_pins (s : State) (f : Pins → Pins) : (s.modPins f).mech.pins = f s.mech.pins := rfl
@[simp] theorem State.modPins_unit (s : State) (f : Pins → Pins) (u : Drive) : (s.modPins f).mech.unit u = s.mech.unit u := by
  cases u <;> rfl
@[simp] theorem State.modPins_cursor (s : State) (f : Pins → Pins) : (s.modPins f).mech.cursor = s.mech.cursor := rfl
@[simp] theorem State.modPins_pending (s : State) (f : Pins → Pins) : (s.modPins f).pending = s.pending := rfl
@[simp] theorem State.silence_store (s : State) : s.silence.store = s.store := rfl
@[simp] theorem State.silence_pending (s : State) : s.silence.pending = s.pending := rfl
@[simp] theorem State.silence_pins (s : State) : s.silence.mech.pins = s.mech.pins := rfl
@[simp] theorem State.silence_unit (s : State) (u : Drive) : s.silence.mech.unit u = s.mech.unit u := by cases u <;> rfl
@[simp] theorem State.silence_cursor (s : State) : s.silence.mech.cursor = s.mech.cursor.silent := rfl

/-! ### The park test that follows every command (R151) -/

@[simp] theorem State.settlePark_mech (s : State) : s.settlePark.mech = s.mech := rfl
@[simp] theorem State.settlePark_pending (s : State) : s.settlePark.pending = s.pending := rfl
@[simp] theorem State.settlePark_unit (s : State) (u : Drive) : s.settlePark.store.unit u = s.store.unit u := by cases u <;> rfl
@[simp] theorem State.settlePark_lines (s : State) : s.settlePark.store.lines = s.store.lines := rfl
@[simp] theorem State.settlePark_line (s : State) (l : Fin 8) : s.settlePark.store.line l = s.store.line l := rfl
@[simp] theorem State.settlePark_nextAge (s : State) : s.settlePark.store.nextAge = s.store.nextAge := rfl
@[simp] theorem State.settlePark_staging (s : State) : s.settlePark.store.staging = s.store.staging := rfl
@[simp] theorem State.settlePark_decoder (s : State) : s.settlePark.store.decoder = s.store.decoder := rfl
@[simp] theorem State.settlePark_marks (s : State) : s.settlePark.store.marks = s.store.marks := rfl
@[simp] theorem State.settlePark_wb (s : State) : s.settlePark.store.wb = s.store.wb := rfl
@[simp] theorem State.settlePark_images (s : State) : s.settlePark.store.images = s.store.images := rfl
@[simp] theorem State.settlePark_panel (s : State) : s.settlePark.store.panel = s.store.panel := rfl
@[simp] theorem State.settlePark_linkState (s : State) : s.settlePark.store.link.state = s.store.link.state := rfl
@[simp] theorem State.settlePark_current (s : State) : s.settlePark.store.link.current = s.store.link.current := rfl
@[simp] theorem State.settlePark_ended (s : State) : s.settlePark.store.link.ended = s.store.link.ended := rfl
@[simp] theorem State.settlePark_remembered (s : State) : s.settlePark.store.link.remembered = s.store.link.remembered := rfl
@[simp] theorem State.settlePark_identity (s : State) : s.settlePark.store.link.identity = s.store.link.identity := rfl
@[simp] theorem State.settlePark_demandQ (s : State) : s.settlePark.store.link.demandQ = s.store.link.demandQ := rfl
@[simp] theorem State.settlePark_catQ (s : State) : s.settlePark.store.link.catQ = s.store.link.catQ := rfl
@[simp] theorem State.settlePark_prefetchQ (s : State) : s.settlePark.store.link.prefetchQ = s.store.link.prefetchQ := rfl

/-- What a command answers is a next state (R151). -/
theorem State.answer_eq (s : State) : s.answer = .next s.settlePark := rfl

end Sys2Proof.Machine
end

