-- ==== Sys2Proof/Laws/Core.lean ====
section
/-! SUPPORT. What no operation on the store changes, save the installation, the card return and a reset: the working configuration, the
mark table and the remembered identity (R37, R123, R142). One lemma per shared operation; a proof cites them and does not unfold the
operation. -/

namespace Sys2Proof.Machine

/-- The working configuration, the mark table and the remembered identity. -/
def Store.core (s : Store) : WorkConfig × Vector MarkEntry 8 × Option CardId := (s.images.config, s.marks, s.link.remembered)

@[simp] theorem Store.core_mk (a b : UnitStore) (l : Vector Line 8) (n : Nat) (st : Staging) (d : Decoder)
    (m : Vector MarkEntry 8) (w : WriteBack) (i : Images) (k : Link) (p : Panel) :
    (Store.mk a b l n st d m w i k p).core = (i.config, m, k.remembered) := rfl

@[simp] theorem Store.core_eta (s : Store) : (s.images.config, s.marks, s.link.remembered) = s.core := rfl

@[simp] theorem Store.core_ite (c : Prop) [Decidable c] (s t : Store) :
    (if c then s else t).core = if c then s.core else t.core := apply_ite Store.core c s t

@[simp] theorem Store.core_foldl {α : Type} (f : Store → α → Store) (h : ∀ s x, (f s x).core = s.core) (xs : List α) (s : Store) :
    (xs.foldl f s).core = s.core := by
  induction xs generalizing s with
  | nil => rfl
  | cons x xs ih => rw [List.foldl_cons, ih, h]

@[simp] theorem Store.core_modUnit (s : Store) (u : Drive) (f : UnitStore → UnitStore) : (s.modUnit u f).core = s.core := by
  cases u <;> rfl

@[simp] theorem Store.core_modMount (s : Store) (u : Drive) (f : Mount → Mount) : (s.modMount u f).core = s.core := by
  simp [Store.modMount]

@[simp] theorem Store.core_modPanel (s : Store) (f : Panel → Panel) : (s.modPanel f).core = s.core := rfl

@[simp] theorem Store.core_modLink (s : Store) (f : Link → Link) (h : ∀ k, (f k).remembered = k.remembered) :
    (s.modLink f).core = s.core := by
  simp only [Store.modLink, Store.core, h]

/-! ### Operations of Machine/Ops.lean -/

@[simp] theorem Store.core_setUnit (s : Store) (u : Drive) (x : UnitStore) : (Store.setUnit s u x).core = s.core := by
  unfold Store.setUnit; try dsimp only
  (repeat' split) <;> simp

@[simp] theorem Store.core_setLine (s : Store) (l : Fin 8) (x : Line) : (Store.setLine s l x).core = s.core := by
  unfold Store.setLine; try dsimp only
  simp

@[simp] theorem Store.core_modLine (s : Store) (l : Fin 8) (f : Line → Line) : (Store.modLine s l f).core = s.core := by
  unfold Store.modLine; try dsimp only
  simp

@[simp] theorem Store.core_wake (s : Store) : (Store.wake s).core = s.core := by
  unfold Store.wake; try dsimp only
  (repeat' split) <;> simp

@[simp] theorem Store.core_giveCode (s : Store) (c : FaultCode) : (Store.giveCode s c).core = s.core := by
  unfold Store.giveCode; try dsimp only
  simp

@[simp] theorem Store.core_clearCandidate (s : Store) : (Store.clearCandidate s).core = s.core := by
  unfold Store.clearCandidate; try dsimp only
  simp

@[simp] theorem Store.core_queueTail (s : Store) (l : Fin 8) : (Store.queueTail s l).core = s.core := by
  unfold Store.queueTail; try dsimp only
  (repeat' split) <;> simp

@[simp] theorem Store.core_queueHead (s : Store) (l : Fin 8) : (Store.queueHead s l).core = s.core := by
  unfold Store.queueHead; try dsimp only
  (repeat' split) <;> simp

@[simp] theorem Store.core_handOver (s : Store) (l : Fin 8) : (Store.handOver s l).core = s.core := by
  unfold Store.handOver; try dsimp only
  (repeat' split) <;> simp

@[simp] theorem Store.core_handUnpinned (s : Store) (u : Drive) : (Store.handUnpinned s u).core = s.core := by
  unfold Store.handUnpinned; try dsimp only
  simp

@[simp] theorem Store.core_queueUnit (s : Store) (u : Drive) : (Store.queueUnit s u).core = s.core := by
  unfold Store.queueUnit; try dsimp only
  simp

@[simp] theorem Store.core_becameDirty (s : Store) (l : Fin 8) : (Store.becameDirty s l).core = s.core := by
  unfold Store.becameDirty; try dsimp only
  (repeat' split) <;> simp

@[simp] theorem Store.core_lingerOut (s : Store) (u : Drive) : (Store.lingerOut s u).core = s.core := by
  unfold Store.lingerOut; try dsimp only
  (repeat' split) <;> simp

@[simp] theorem Store.core_restartLinger (s : Store) (u : Drive) : (Store.restartLinger s u).core = s.core := by
  unfold Store.restartLinger; try dsimp only
  (repeat' split) <;> simp

@[simp] theorem Store.core_touch (s : Store) (u : Drive) (l : Fin 8) : (Store.touch s u l).core = s.core := by
  unfold Store.touch; try dsimp only
  simp

@[simp] theorem Store.core_touchLeast (s : Store) (u : Drive) (l : Fin 8) : (Store.touchLeast s u l).core = s.core := by
  unfold Store.touchLeast; try dsimp only
  simp

@[simp] theorem Store.core_present (s : Store) (l : Fin 8) : (Store.present s l).core = s.core := by
  unfold Store.present; try dsimp only
  (repeat' split) <;> simp

@[simp] theorem Store.core_askFill (s : Store) (cls : DemandClass) (r : FillReq) :
    (Store.askFill s cls r).core = s.core := by
  unfold Store.askFill; try dsimp only
  (repeat' split) <;> simp

@[simp] theorem Store.core_askCat (s : Store) (r : CatReq) : (Store.askCat s r).core = s.core := by
  unfold Store.askCat; try dsimp only
  simp

@[simp] theorem Store.core_withdraw (s : Store) (l : Fin 8) : (Store.withdraw s l).core = s.core := by
  unfold Store.withdraw; try dsimp only
  simp

@[simp] theorem Store.core_askResume (s : Store) : (Store.askResume s).core = s.core := by
  unfold Store.askResume; try dsimp only
  (repeat' split) <;> simp

@[simp] theorem Store.core_dropTarget (s : Store) (l : Fin 8) : (Store.dropTarget s l).core = s.core := by
  unfold Store.dropTarget; try dsimp only
  (repeat' split) <;> simp

@[simp] theorem Store.core_leaveOrder (s : Store) (l : Fin 8) : (Store.leaveOrder s l).core = s.core := by
  unfold Store.leaveOrder; try dsimp only
  (repeat' split) <;> simp

@[simp] theorem Store.core_freeLine (s : Store) (l : Fin 8) : (Store.freeLine s l).core = s.core := by
  unfold Store.freeLine; try dsimp only
  simp

@[simp] theorem Store.core_freeLines (s : Store) (ls : List (Fin 8)) : (Store.freeLines s ls).core = s.core := by
  unfold Store.freeLines; try dsimp only
  simp

@[simp] theorem Store.core_endClaim (s : Store) : (Store.endClaim s).core = s.core := by
  unfold Store.endClaim; try dsimp only
  (repeat' split) <;> simp

/-! ### Operations of Machine/Edits.lean -/

@[simp] theorem Store.core_edit (s : Store) (l : Fin 8) (blocks : List Nat) : (Store.edit s l blocks).core = s.core := by
  unfold Store.edit; try dsimp only
  (repeat' split) <;> simp

@[simp] theorem Store.core_modRecord (s : Store) (l : Fin 8) (f : TrackRecord → TrackRecord) :
    (Store.modRecord s l f).core = s.core := by
  unfold Store.modRecord; try dsimp only
  simp

@[simp] theorem Store.core_fillFaulted (s : Store) (l : Fin 8) (r : TrackRecord) :
    (Store.fillFaulted s l r).core = s.core := by
  unfold Store.fillFaulted; try dsimp only
  (repeat' split) <;> simp

@[simp] theorem Store.core_mergeInto (s : Store) (l : Fin 8) (c : Claim) : (Store.mergeInto s l c).core = s.core := by
  unfold Store.mergeInto; try dsimp only
  (repeat' split) <;> simp

@[simp] theorem Store.core_mergeClaim (s : Store) (l : Fin 8) (c : Claim) : (Store.mergeClaim s l c).core = s.core := by
  unfold Store.mergeClaim; try dsimp only
  simp

@[simp] theorem Store.core_mergeWaiting (s : Store) (l : Fin 8) : (Store.mergeWaiting s l).core = s.core := by
  unfold Store.mergeWaiting; try dsimp only
  (repeat' split) <;> simp

/-! ### Operations of Machine/Mounts.lean -/

@[simp] theorem Store.core_moveToHead (s : Store) (u : Drive) : (Store.moveToHead s u).core = s.core := by
  unfold Store.moveToHead; try dsimp only
  simp

@[simp] theorem Store.core_enterInterval (s : Store) (u : Drive) (target : Option MountReq) :
    (Store.enterInterval s u target).core = s.core := by
  unfold Store.enterInterval; try dsimp only
  (repeat' split) <;> simp

@[simp] theorem Store.core_enterEmpty (s : Store) (u : Drive) : (Store.enterEmpty s u).core = s.core := by
  unfold Store.enterEmpty; try dsimp only
  simp

@[simp] theorem Store.core_request (s : Store) (u : Drive) (r : MountReq) : (Store.request s u r).core = s.core := by
  unfold Store.request; try dsimp only
  (repeat' split) <;> simp

@[simp] theorem Store.core_servePending (s : Store) (u : Drive) : (Store.servePending s u).core = s.core := by
  unfold Store.servePending; try dsimp only
  (repeat' split) <;> simp

@[simp] theorem Store.core_offerMount (s : Store) (u : Drive) : (Store.offerMount s u).core = s.core := by
  unfold Store.offerMount; try dsimp only
  (repeat' split) <;> simp

@[simp] theorem Store.core_leaveHeld (s : Store) (u : Drive) : (Store.leaveHeld s u).core = s.core := by
  unfold Store.leaveHeld; try dsimp only
  (repeat' split) <;> simp

@[simp] theorem Store.core_heldOrEmpty (s : Store) (u : Drive) : (Store.heldOrEmpty s u).core = s.core := by
  unfold Store.heldOrEmpty; try dsimp only
  (repeat' split) <;> simp

@[simp] theorem Store.core_lookupFails (s : Store) (u : Drive) : (Store.lookupFails s u).core = s.core := by
  unfold Store.lookupFails; try dsimp only
  simp

@[simp] theorem Store.core_badHeader (s : Store) (u : Drive) : (Store.badHeader s u).core = s.core := by
  unfold Store.badHeader; try dsimp only
  (repeat' split) <;> simp

@[simp] theorem Store.core_catalogueInvalid (s : Store) : (Store.catalogueInvalid s).core = s.core := by
  unfold Store.catalogueInvalid; try dsimp only
  simp

/-! ### Operations of Machine/Fills.lean -/

@[simp] theorem Store.core_modDemands (s : Store) (u : Drive) (f : List Demand → List Demand) :
    (Store.modDemands s u f).core = s.core := by
  unfold Store.modDemands; try dsimp only
  simp

@[simp] theorem Store.core_dropDemand (s : Store) (u : Drive) (l : Fin 8) : (Store.dropDemand s u l).core = s.core := by
  unfold Store.dropDemand; try dsimp only
  simp

@[simp] theorem Store.core_stageDemand (s : Store) (u : Drive) (age : Nat) (l : Fin 8) (st : DemandStage) :
    (Store.stageDemand s u age l st).core = s.core := by
  unfold Store.stageDemand; try dsimp only
  simp

@[simp] theorem Store.core_addDemand (s : Store) (u : Drive) (d : Demand) : (Store.addDemand s u d).core = s.core := by
  unfold Store.addDemand; try dsimp only
  simp

@[simp] theorem Store.core_attach (s : Store) (u : Drive) (l : Fin 8) (key : TrackKey) :
    (Store.attach s u l key).core = s.core := by
  unfold Store.attach; try dsimp only
  simp

@[simp] theorem Store.core_startFill (s : Store) (u : Drive) (l : Fin 8) (age : Nat) (cls : DemandClass) (key : TrackKey) :
    (Store.startFill s u l age cls key).core = s.core := by
  unfold Store.startFill; try dsimp only
  (repeat' split) <;> simp

@[simp] theorem Store.core_serveOne (s : Store) (u : Drive) (d : Demand) : (Store.serveOne s u d).core = s.core := by
  unfold Store.serveOne; try dsimp only
  (repeat' split) <;> simp

@[simp] theorem Store.core_serveWaiting (s : Store) (u : Drive) : (Store.serveWaiting s u).core = s.core := by
  unfold Store.serveWaiting; try dsimp only
  simp

@[simp] theorem Store.core_issueDemand (s : Store) (u : Drive) (key : TrackKey) :
    (Store.issueDemand s u key).core = s.core := by
  unfold Store.issueDemand; try dsimp only
  (repeat' split) <;> simp

@[simp] theorem Store.core_reissue (s : Store) (u : Drive) (key : TrackKey) : (Store.reissue s u key).core = s.core := by
  unfold Store.reissue; try dsimp only
  split <;> simp

@[simp] theorem Store.core_refill (s : Store) (u : Drive) (l : Fin 8) (key : TrackKey) :
    (Store.refill s u l key).core = s.core := by
  unfold Store.refill; try dsimp only
  simp

@[simp] theorem Store.core_prefetchKey (s : Store) (u : Drive) (key : TrackKey) :
    (Store.prefetchKey s u key).core = s.core := by
  unfold Store.prefetchKey; try dsimp only
  (repeat' split) <;> simp

@[simp] theorem Store.core_evalPrefetch (s : Store) (u : Drive) : (Store.evalPrefetch s u).core = s.core := by
  unfold Store.evalPrefetch; try dsimp only
  (repeat' split) <;> simp

@[simp] theorem Store.core_cancelDemand (s : Store) (u : Drive) (d : Demand) : (Store.cancelDemand s u d).core = s.core := by
  unfold Store.cancelDemand; try dsimp only
  (repeat' split) <;> simp

@[simp] theorem Store.core_cancelWhere (s : Store) (u : Drive) (test : Demand → Bool) :
    (Store.cancelWhere s u test).core = s.core := by
  unfold Store.cancelWhere; try dsimp only
  simp

@[simp] theorem Store.core_needKey (s : Store) (u : Drive) (key : TrackKey) : (Store.needKey s u key).core = s.core := by
  unfold Store.needKey; try dsimp only
  (repeat' split) <;> simp

@[simp] theorem Store.core_arrive (s : Store) (u : Drive) (head : Nat) (side : Bool) :
    (Store.arrive s u head side).core = s.core := by
  unfold Store.arrive; try dsimp only
  (repeat' split) <;> simp

@[simp] theorem Store.core_fillEndsFree (s : Store) (u : Drive) (l : Fin 8) : (Store.fillEndsFree s u l).core = s.core := by
  unfold Store.fillEndsFree; try dsimp only
  split <;> simp

@[simp] theorem Store.core_fillLoaded (s : Store) (u : Drive) (l : Fin 8) (r : TrackRecord) :
    (Store.fillLoaded s u l r).core = s.core := by
  unfold Store.fillLoaded; try dsimp only
  (repeat' split) <;> simp

@[simp] theorem Store.core_fillFails (s : Store) (u : Drive) (l : Fin 8) : (Store.fillFails s u l).core = s.core := by
  unfold Store.fillFails; try dsimp only
  simp

@[simp] theorem Store.core_fillReadFails (s : Store) (l : Fin 8) : (Store.fillReadFails s l).core = s.core := by
  unfold Store.fillReadFails; try dsimp only
  (repeat' split) <;> simp

@[simp] theorem Store.core_headerRead (s : Store) (l : Fin 8) (block : List Byte) :
    (Store.headerRead s l block).core = s.core := by
  unfold Store.headerRead; try dsimp only
  (repeat' split) <;> simp

@[simp] theorem Store.core_bodyRead (s : Store) (l : Fin 8) (rest : List Byte) :
    (Store.bodyRead s l rest).core = s.core := by
  unfold Store.bodyRead; try dsimp only
  (repeat' split) <;> simp

@[simp] theorem Store.core_safePointLine (s : Store) (u : Drive) (l : Fin 8) :
    (Store.safePointLine s u l).core = s.core := by
  unfold Store.safePointLine; try dsimp only
  (repeat' split) <;> simp

@[simp] theorem Store.core_safePointLines (s : Store) (u : Drive) : (Store.safePointLines s u).core = s.core := by
  unfold Store.safePointLines; try dsimp only
  simp

/-! ### Operations of Machine/Decoder.lean -/

@[simp] theorem Store.core_modCtx (s : Store) (f : SpanCtx → SpanCtx) : (Store.modCtx s f).core = s.core := by
  unfold Store.modCtx; try dsimp only
  simp

@[simp] theorem Store.core_parseClaim (s : Store) (c : Claim) : (Store.parseClaim s c).core = s.core := by
  unfold Store.parseClaim; try dsimp only
  simp

@[simp] theorem Store.core_parseMark (s : Store) (c : Claim) (enc : Encoding) (i : Fin 8) (m : Nat) (ident : Byte) :
    (Store.parseMark s c enc i m ident).core = s.core := by
  unfold Store.parseMark; try dsimp only
  (repeat' split) <;> simp

@[simp] theorem Store.core_startFormat (s : Store) (enc : Encoding) (i : Fin 8) (m : Nat) (ident : Byte) :
    (Store.startFormat s enc i m ident).core = s.core := by
  unfold Store.startFormat; try dsimp only
  (repeat' split) <;> simp

@[simp] theorem Store.core_startData (s : Store) (e : Entry) (i : Fin 8) (m : Nat) (ident : Byte) :
    (Store.startData s e i m ident).core = s.core := by
  unfold Store.startData; try dsimp only
  (repeat' split) <;> simp

@[simp] theorem Store.core_writeTarget (s : Store) (i : Nat) (b : Byte) : (Store.writeTarget s i b).core = s.core := by
  unfold Store.writeTarget; try dsimp only
  (repeat' split) <;> simp

@[simp] theorem Store.core_clearTarget (s : Store) : (Store.clearTarget s).core = s.core := by
  unfold Store.clearTarget; try dsimp only
  (repeat' split) <;> simp

@[simp] theorem Store.core_modLastNew (s : Store) (f : NewSector → NewSector) : (Store.modLastNew s f).core = s.core := by
  unfold Store.modLastNew; try dsimp only
  (repeat' split) <;> simp

@[simp] theorem Store.core_addNewSector (s : Store) (x : NewSector) : (Store.addNewSector s x).core = s.core := by
  unfold Store.addNewSector; try dsimp only
  (repeat' split) <;> simp

@[simp] theorem Store.core_payloadByte (s : Store) (i : Nat) (b : Byte) : (Store.payloadByte s i b).core = s.core := by
  unfold Store.payloadByte; try dsimp only
  (repeat' split) <;> simp

@[simp] theorem Store.core_fieldComplete (s : Store) : (Store.fieldComplete s).core = s.core := by
  unfold Store.fieldComplete; try dsimp only
  (repeat' split) <;> simp

@[simp] theorem Store.core_fieldByte (s : Store) (b : Byte) : (Store.fieldByte s b).core = s.core := by
  unfold Store.fieldByte; try dsimp only
  (repeat' split) <;> simp

@[simp] theorem Store.core_recognized (s : Store) (e : Entry) (i : Fin 8) (m : Nat) (ident : Byte) :
    (Store.recognized s e i m ident).core = s.core := by
  unfold Store.recognized; try dsimp only
  (repeat' split) <;> simp

@[simp] theorem Store.core_searchMfm (s : Store) (e : Entry) (whole : Bool) : (Store.searchMfm s e whole).core = s.core := by
  unfold Store.searchMfm; try dsimp only
  (repeat' split) <;> simp

@[simp] theorem Store.core_searchFm (s : Store) (e : Entry) (whole : Bool) : (Store.searchFm s e whole).core = s.core := by
  unfold Store.searchFm; try dsimp only
  (repeat' split) <;> simp

@[simp] theorem Store.core_halfCell (s : Store) (e : Entry) (p : Nat) (bit : Bool) :
    (Store.halfCell s e p bit).core = s.core := by
  unfold Store.halfCell; try dsimp only
  (repeat' split) <;> simp

@[simp] theorem Store.core_violation (s : Store) : (Store.violation s).core = s.core := by
  unfold Store.violation; try dsimp only
  (repeat' split) <;> simp

@[simp] theorem Store.core_fluxInterval (s : Store) (r : Rotation) (since t : Nat) :
    (Store.fluxInterval s r since t).core = s.core := by
  unfold Store.fluxInterval; try dsimp only
  (repeat' split) <;> simp

@[simp] theorem Store.core_fluxEdge (s : Store) (r : Rotation) (since : Nat) (x : FluxEdge) :
    (Store.fluxEdge s r since x).core = s.core := by
  unfold Store.fluxEdge; try dsimp only
  (repeat' split) <;> simp

@[simp] theorem Store.core_fluxEdges (r : Rotation) (xs : List FluxEdge) (s : Store) :
    (Store.fluxEdges r xs s).core = s.core := by
  induction xs generalizing s with
  | nil => rfl
  | cons x xs ih => simp [Store.fluxEdges, ih]

@[simp] theorem Store.core_startSpan (s : Store) (u : Drive) (side : Bool) (p head : Nat) :
    (Store.startSpan s u side p head).core = s.core := by
  unfold Store.startSpan; try dsimp only
  simp

@[simp] theorem Store.core_overrun (s : Store) (b : Nat) : (Store.overrun s b).core = s.core := by
  unfold Store.overrun; try dsimp only
  (repeat' split) <;> simp

@[simp] theorem Store.core_strayEnd (s : Store) (a b : Nat) : (Store.strayEnd s a b).core = s.core := by
  unfold Store.strayEnd; try dsimp only
  (repeat' split) <;> simp

@[simp] theorem Store.core_formatEnd (s : Store) (b : Nat) : (Store.formatEnd s b).core = s.core := by
  unfold Store.formatEnd; try dsimp only
  (repeat' split) <;> simp

@[simp] theorem Store.core_spanEffect (s : Store) (b : Nat) : (Store.spanEffect s b).core = s.core := by
  unfold Store.spanEffect; try dsimp only
  (repeat' split) <;> simp

@[simp] theorem Store.core_endSpan (s : Store) (b : Nat) (next : DecState) : (Store.endSpan s b next).core = s.core := by
  unfold Store.endSpan; try dsimp only
  simp

@[simp] theorem Store.core_endSpanOf (s : Store) (u : Drive) (b : Nat) : (Store.endSpanOf s u b).core = s.core := by
  unfold Store.endSpanOf; try dsimp only
  (repeat' split) <;> simp

@[simp] theorem Store.core_dropClaim (s : Store) : (Store.dropClaim s).core = s.core := by
  unfold Store.dropClaim; try dsimp only
  (repeat' split) <;> simp

@[simp] theorem Store.core_dropClaimOf (s : Store) (u : Drive) : (Store.dropClaimOf s u).core = s.core := by
  unfold Store.dropClaimOf; try dsimp only
  (repeat' split) <;> simp

/-! ### Operations of Machine/Pass.lean -/

@[simp] theorem Store.core_passEnd (s : Store) : (Store.passEnd s).core = s.core := by
  unfold Store.passEnd; try dsimp only
  (repeat' split) <;> simp

@[simp] theorem Store.core_recordPartEnd (s : Store) : (Store.recordPartEnd s).core = s.core := by
  unfold Store.recordPartEnd; try dsimp only
  (repeat' split) <;> simp

@[simp] theorem Store.core_loseLine (s : Store) (l : Fin 8) : (Store.loseLine s l).core = s.core := by
  unfold Store.loseLine; try dsimp only
  (repeat' split) <;> simp

@[simp] theorem Store.core_cardLoss (s : Store) : (Store.cardLoss s).core = s.core := by
  unfold Store.cardLoss; try dsimp only
  (repeat' split) <;> simp

@[simp] theorem Store.core_catFails (s : Store) (r : CatReq) : (Store.catFails s r).core = s.core := by
  unfold Store.catFails; try dsimp only
  (repeat' split) <;> simp

@[simp] theorem Store.core_enterFault (s : Store) : (Store.enterFault s).core = s.core := by
  unfold Store.enterFault; try dsimp only
  simp

@[simp] theorem Store.core_linkIdle (s : Store) : (Store.linkIdle s).core = s.core := by
  unfold Store.linkIdle; try dsimp only
  simp

@[simp] theorem Store.core_openWrite (s : Store) (job : WriteJob) (cls : ReqClass) (addr : Nat) (data : List Byte) :
    (Store.openWrite s job cls addr data).core = s.core := by
  unfold Store.openWrite; try dsimp only
  (repeat' split) <;> simp

@[simp] theorem Store.core_takeBlock (s : Store) (l : Fin 8) (b : Nat) : (Store.takeBlock s l b).core = s.core := by
  unfold Store.takeBlock; try dsimp only
  simp

@[simp] theorem Store.core_openRecord (s : Store) (l : Fin 8) (e : Entry) (b : Nat) :
    (Store.openRecord s l e b).core = s.core := by
  unfold Store.openRecord; try dsimp only
  (repeat' split) <;> simp

@[simp] theorem Store.core_openMap (s : Store) : (Store.openMap s).core = s.core := by
  unfold Store.openMap; try dsimp only
  (repeat' split) <;> simp

@[simp] theorem Store.core_passContinue (s : Store) : (Store.passContinue s).core = s.core := by
  unfold Store.passContinue; try dsimp only
  (repeat' split) <;> simp

@[simp] theorem Store.core_startPass (s : Store) : (Store.startPass s).core = s.core := by
  unfold Store.startPass; try dsimp only
  (repeat' split) <;> simp

@[simp] theorem Store.core_grantWriteBack (s : Store) : (Store.grantWriteBack s).core = s.core := by
  unfold Store.grantWriteBack; try dsimp only
  (repeat' split) <;> simp

@[simp] theorem Store.core_setWrite (s : Store) (t : WriteTxn) : (Store.setWrite s t).core = s.core := by
  unfold Store.setWrite; try dsimp only
  simp

@[simp] theorem Store.core_closeWrite (s : Store) (t : WriteTxn) : (Store.closeWrite s t).core = s.core := by
  unfold Store.closeWrite; try dsimp only
  simp

@[simp] theorem Store.core_recordConfirmed (s : Store) (t : WriteTxn) : (Store.recordConfirmed s t).core = s.core := by
  unfold Store.recordConfirmed; try dsimp only
  (repeat' split) <;> simp

@[simp] theorem Store.core_setPresent (s : Store) : (Store.setPresent s).core = s.core := by
  unfold Store.setPresent; try dsimp only
  (repeat' split) <;> simp

@[simp] theorem Store.core_blockConfirmed (s : Store) (t : WriteTxn) : (Store.blockConfirmed s t).core = s.core := by
  unfold Store.blockConfirmed; try dsimp only
  (repeat' split) <;> simp

@[simp] theorem Store.core_blockFails (s : Store) (t : WriteTxn) : (Store.blockFails s t).core = s.core := by
  unfold Store.blockFails; try dsimp only
  (repeat' split) <;> simp

@[simp] theorem Store.core_writeEnds (s : Store) (t : WriteTxn) : (Store.writeEnds s t).core = s.core := by
  unfold Store.writeEnds; try dsimp only
  (repeat' split) <;> simp

@[simp] theorem Store.core_stopEnds (s : Store) : (Store.stopEnds s).core = s.core := by
  unfold Store.stopEnds; try dsimp only
  (repeat' split) <;> simp

@[simp] theorem Store.core_requestDrain (s : Store) : (Store.requestDrain s).core = s.core := by
  unfold Store.requestDrain; try dsimp only
  simp

/-! ### Operations of Machine/Lines.lean -/

@[simp] theorem Store.core_evalIfFilled (old s : Store) (u : Drive) : (Store.evalIfFilled old s u).core = s.core := by
  unfold Store.evalIfFilled; try dsimp only
  (repeat' split) <;> simp

@[simp] theorem Store.core_stepTaken (s : Store) (u : Drive) (up : Bool) : (Store.stepTaken s u up).core = s.core := by
  unfold Store.stepTaken; try dsimp only
  simp

/-! ### Operations of Machine/Catalogue.lean -/

@[simp] theorem Store.core_failRead (s : Store) (job : ReadJob) : (Store.failRead s job).core = s.core := by
  unfold Store.failRead; try dsimp only
  (repeat' split) <;> simp

@[simp] theorem Store.core_offerMounts (s : Store) : (Store.offerMounts s).core = s.core := by
  unfold Store.offerMounts; try dsimp only
  simp

@[simp] theorem Store.core_lookupSlot (s : Store) (u : Drive) (n : Nat) : (Store.lookupSlot s u n).core = s.core := by
  unfold Store.lookupSlot; try dsimp only
  (repeat' split) <;> simp

@[simp] theorem Store.core_lookup (s : Store) (u : Drive) : (Store.lookup s u).core = s.core := by
  unfold Store.lookup; try dsimp only
  (repeat' split) <;> simp

@[simp] theorem Store.core_enterMounted (s : Store) (u : Drive) (e : Entry) (map : BitVec 168) :
    (Store.enterMounted s u e map).core = s.core := by
  unfold Store.enterMounted; try dsimp only
  simp

@[simp] theorem Store.core_unhold (s : Store) (l : Fin 8) : (Store.unhold s l).core = s.core := by
  unfold Store.unhold; try dsimp only
  simp

@[simp] theorem Store.core_settleHeld (s : Store) (same locked : Bool) : (Store.settleHeld s same locked).core = s.core := by
  unfold Store.settleHeld; try dsimp only
  (repeat' split) <;> simp

@[simp] theorem Store.core_removeMounted (s : Store) (u : Drive) : (Store.removeMounted s u).core = s.core := by
  unfold Store.removeMounted; try dsimp only
  (repeat' split) <;> simp

@[simp] theorem Store.core_removeChanging (s : Store) (u : Drive) : (Store.removeChanging s u).core = s.core := by
  unfold Store.removeChanging; try dsimp only
  simp

@[simp] theorem Store.core_dropCatalogue (s : Store) : (Store.dropCatalogue s).core = s.core := by
  unfold Store.dropCatalogue; try dsimp only
  simp

/-! ### Operations of Machine/CardLink.lean -/

@[simp] theorem Store.core_initFails (s : Store) : (Store.initFails s).core = s.core := by
  unfold Store.initFails; try dsimp only
  simp

@[simp] theorem Store.core_openRead (s : Store) (job : ReadJob) (cls : ReqClass) (start count : Nat) (age : Option Nat) :
    (Store.openRead s job cls start count age).core = s.core := by
  unfold Store.openRead; try dsimp only
  (repeat' split) <;> simp

@[simp] theorem Store.core_inFlight (s : Store) (l : Fin 8) : (Store.inFlight s l).core = s.core := by
  unfold Store.inFlight; try dsimp only
  simp

@[simp] theorem Store.core_grantFill (s : Store) (r : FillReq) (cls : ReqClass) :
    (Store.grantFill s r cls).core = s.core := by
  unfold Store.grantFill; try dsimp only
  (repeat' split) <;> simp

@[simp] theorem Store.core_grantCat (s : Store) (r : CatReq) : (Store.grantCat s r).core = s.core := by
  unfold Store.grantCat; try dsimp only
  (repeat' split) <;> simp

@[simp] theorem Store.core_grant (s : Store) : (Store.grant s).core = s.core := by
  unfold Store.grant; try dsimp only
  (repeat' split) <;> simp

@[simp] theorem Store.core_setRead (s : Store) (t : ReadTxn) : (Store.setRead s t).core = s.core := by
  unfold Store.setRead; try dsimp only
  simp

@[simp] theorem Store.core_readOk (s : Store) (t : ReadTxn) (data : List Byte) : (Store.readOk s t data).core = s.core := by
  unfold Store.readOk; try dsimp only
  (repeat' split) <;> simp

@[simp] theorem Store.core_readFails (s : Store) (t : ReadTxn) : (Store.readFails s t).core = s.core := by
  unfold Store.readFails; try dsimp only
  (repeat' split) <;> simp

@[simp] theorem Store.core_readBlock (s : Store) (t : ReadTxn) (r : ReadResult) : (Store.readBlock s t r).core = s.core := by
  unfold Store.readBlock; try dsimp only
  (repeat' split) <;> simp

@[simp] theorem Store.core_writeBlock (s : Store) (t : WriteTxn) (r : WriteResult) :
    (Store.writeBlock s t r).core = s.core := by
  unfold Store.writeBlock; try dsimp only
  (repeat' split) <;> simp

@[simp] theorem Store.core_noResponse (s : Store) : (Store.noResponse s).core = s.core := by
  unfold Store.noResponse; try dsimp only
  (repeat' split) <;> simp

@[simp] theorem Store.core_busyTimeout (s : Store) : (Store.busyTimeout s).core = s.core := by
  unfold Store.busyTimeout; try dsimp only
  (repeat' split) <;> simp

@[simp] theorem Store.core_takeEnded (s : Store) : (Store.takeEnded s).core = s.core := by
  unfold Store.takeEnded; try dsimp only
  simp

/-! ### Operations of Machine/PanelOps.lean -/

@[simp] theorem Store.core_beginGesture (s : Store) (k : Key) : (Store.beginGesture s k).core = s.core := by
  unfold Store.beginGesture; try dsimp only
  (repeat' split) <;> simp

@[simp] theorem Store.core_pressKey (s : Store) (k : Key) : (Store.pressKey s k).core = s.core := by
  unfold Store.pressKey; try dsimp only
  (repeat' split) <;> simp

@[simp] theorem Store.core_toggleUnit (s : Store) : (Store.toggleUnit s).core = s.core := by
  unfold Store.toggleUnit; try dsimp only
  (repeat' split) <;> simp

@[simp] theorem Store.core_stepCandidate (s : Store) (up : Bool) : (Store.stepCandidate s up).core = s.core := by
  unfold Store.stepCandidate; try dsimp only
  (repeat' split) <;> simp

@[simp] theorem Store.core_shortLoad (s : Store) : (Store.shortLoad s).core = s.core := by
  unfold Store.shortLoad; try dsimp only
  (repeat' split) <;> simp

@[simp] theorem Store.core_discard (s : Store) (u : Drive) : (Store.discard s u).core = s.core := by
  unfold Store.discard; try dsimp only
  (repeat' split) <;> simp

@[simp] theorem Store.core_longLoad (s : Store) : (Store.longLoad s).core = s.core := by
  unfold Store.longLoad; try dsimp only
  (repeat' split) <;> simp

@[simp] theorem Store.core_releaseAction (s : Store) (keys : KeySet) : (Store.releaseAction s keys).core = s.core := by
  unfold Store.releaseAction; try dsimp only
  (repeat' split) <;> simp

@[simp] theorem Store.core_releaseFrom (s : Store) (g : Gesture) (rest : KeySet) :
    (Store.releaseFrom s g rest).core = s.core := by
  unfold Store.releaseFrom; try dsimp only
  (repeat' split) <;> simp

@[simp] theorem Store.core_releaseKey (s : Store) (k : Key) (down : KeySet) : (Store.releaseKey s k down).core = s.core := by
  unfold Store.releaseKey; try dsimp only
  (repeat' split) <;> simp

@[simp] theorem Store.core_beginRestart (s : Store) : (Store.beginRestart s).core = s.core := by
  unfold Store.beginRestart; try dsimp only
  simp

end Sys2Proof.Machine
end

