-- ==== Sys2Proof/Laws/Edits.lean ====
section
/-! SUPPORT. The blocks of an edit, and what an edit does to the lines, said once (R17, R18, R95). -/

namespace Sys2Proof.Machine

/-- Adding a number to an ascending list adds that member (R18). -/
@[simp] theorem mem_insertNat (a b : Nat) (xs : List Nat) : b ∈ insertNat a xs ↔ b = a ∨ b ∈ xs := by
  induction xs with
  | nil => simp [insertNat]
  | cons x xs ih =>
    unfold insertNat
    split
    · simp
    · split
      · subst a; simp
      · simp [ih, or_left_comm]

/-- Adding several numbers to an ascending list adds those members (R18). -/
@[simp] theorem mem_insertNats (ns xs : List Nat) (b : Nat) : b ∈ insertNats ns xs ↔ b ∈ xs ∨ b ∈ ns := by
  induction ns generalizing xs with
  | nil => simp [insertNats]
  | cons n ns ih =>
    have h := ih (insertNat n xs)
    simp only [insertNats, List.foldl_cons] at h ⊢
    simp [h, or_comm, or_left_comm, or_assoc]

/-- The blocks of [o, o + n) are those that hold one of its bytes (R17). -/
theorem mem_blocksOf (o n b : Nat) : b ∈ blocksOf o n ↔ ∃ x, (o ≤ x ∧ x < o + n) ∧ x / 512 = b := by
  unfold blocksOf
  simp only [Config.blockBytes]
  split
  · constructor
    · simp
    · rintro ⟨x, hx, -⟩; omega
  · rw [List.range_eq_range', List.drop_range', List.mem_range'_1]
    constructor
    · intro h
      refine ⟨max o (512 * b), ?_, ?_⟩ <;> omega
    · rintro ⟨x, hx, rfl⟩
      omega

/-- The blocks of a descriptor are those that hold one of its bytes (R17). -/
theorem mem_descriptorBlocks (i b : Nat) : b ∈ descriptorBlocks i ↔ ∃ o, InDescriptor i o ∧ o / 512 = b :=
  mem_blocksOf (64 + 16 * i) 16 b

/-- The blocks of a record of `len` bytes are those that hold one of them (R17). -/
theorem mem_allBlocks (len b : Nat) : b ∈ allBlocks len ↔ ∃ o, o < len ∧ o / 512 = b := by
  simp only [allBlocks, blockCount, Config.blockBytes, List.mem_range]
  constructor
  · intro h
    exact ⟨512 * b, by omega, by omega⟩
  · rintro ⟨o, h, rfl⟩
    omega

/-- Handing a line to the write-back controller changes no line (R103, R152). -/
@[simp] theorem Store.becameDirty_line (s : Store) (l m : Fin 8) : (s.becameDirty l).line m = s.line m := by
  unfold Store.becameDirty Store.handOver Store.queueHead Store.queueTail Store.wake
  dsimp only
  repeat' split
  all_goals rfl

/-- What an edit does to the lines, for a resident line and the blocks that hold the bytes written (R18, R95). -/
theorem Store.edit_wrote (s : Store) (l : Fin 8) (blocks : List Nat) (wrote : Nat → Prop)
    (hr : (s.line l).state.resident = true) (hb : ∀ b, b ∈ blocks ↔ ∃ o, wrote o ∧ o / 512 = b) :
    s.Wrote (s.edit l blocks) l wrote := by
  have hex : (∃ o, wrote o) ↔ blocks ≠ [] := by
    constructor
    · rintro ⟨o, ho⟩ h
      have := (hb (o / 512)).2 ⟨o, ho, rfl⟩
      simp [h] at this
    · intro h
      obtain ⟨b, hm⟩ := List.exists_mem_of_ne_nil _ h
      obtain ⟨o, ho, -⟩ := (hb b).1 hm
      exact ⟨o, ho⟩
  unfold Store.Wrote
  simp only [← hb, hex]
  unfold Store.edit
  by_cases hn : blocks = []
  · subst hn; simp
  · have hie : blocks.isEmpty = false := by cases blocks <;> simp_all
    simp only [hie, Bool.false_eq_true, if_false]
    have other : ∀ (x : Line) (m : Fin 8), m ≠ l → (s.setLine l x).line m = s.line m :=
      fun x m hm => s.setLine_line_ne hm.symm x
    cases hst : (s.line l).state with
    | clean =>
      by_cases hsc : s.lineScratch l = true
      · simpa [hst, hsc, hn, Store.modLine] using other _
      · simpa [hst, hsc, hn, Store.modLine] using other _
    | dirty => simpa [hst, hn, Store.modLine] using other _
    | writing => simpa [hst, hn, Store.modLine] using other _
    | free => simp [hst, LineState.resident] at hr
    | filling => simp [hst, LineState.resident] at hr
    | fault => simp [hst, LineState.resident] at hr
    | held => simp [hst, LineState.resident] at hr

end Sys2Proof.Machine
end

