-- ==== Sys2Proof/Laws/Frames.lean ====
section
/-! SUPPORT. What the operations on the whole state leave alone: the queue of commands, the store's core (Laws/Core.lean), the head
positions, and the rotation timers. One lemma per operation. -/

namespace Sys2Proof.Machine

/-- The store's core and the two head positions. -/
def State.heads (s : State) : (WorkConfig × Vector MarkEntry 8 × Option CardId) × Nat × Nat :=
  (s.store.core, s.mech.a.lines.head, s.mech.b.lines.head)

/-- The two rotation timers. -/
def State.rots (s : State) : Rotation × Rotation := (s.mech.a.rot, s.mech.b.rot)

@[simp] theorem State.heads_ite (c : Prop) [Decidable c] (s t : State) :
    (if c then s else t).heads = if c then s.heads else t.heads := apply_ite State.heads c s t

@[simp] theorem State.rots_ite (c : Prop) [Decidable c] (s t : State) :
    (if c then s else t).rots = if c then s.rots else t.rots := apply_ite State.rots c s t

@[simp] theorem State.heads_modStore (s : State) (f : Store → Store) (h : ∀ x, (f x).core = x.core) :
    (s.modStore f).heads = s.heads := by
  simp [State.heads, State.modStore, h]

@[simp] theorem State.rots_modStore (s : State) (f : Store → Store) : (s.modStore f).rots = s.rots := rfl

@[simp] theorem State.heads_modRot (s : State) (u : Drive) (f : Rotation → Rotation) : (s.modRot u f).heads = s.heads := by
  cases u <;> rfl

@[simp] theorem State.heads_modLines (s : State) (u : Drive) (f : UnitLines → UnitLines) (h : ∀ l, (f l).head = l.head) :
    (s.modLines u f).heads = s.heads := by
  cases u <;> simp [State.heads, State.modLines, State.modMech, Mech.modLines, Mech.setUnit, Mech.unit, h]

@[simp] theorem State.rots_modLines (s : State) (u : Drive) (f : UnitLines → UnitLines) : (s.modLines u f).rots = s.rots := by
  cases u <;> rfl

@[simp] theorem State.heads_modPins (s : State) (f : Pins → Pins) : (s.modPins f).heads = s.heads := rfl
@[simp] theorem State.rots_modPins (s : State) (f : Pins → Pins) : (s.modPins f).rots = s.rots := rfl

@[simp] theorem State.heads_silence (s : State) : s.silence.heads = s.heads := rfl
@[simp] theorem State.rots_silence (s : State) : s.silence.rots = s.rots := rfl

@[simp] theorem State.heads_modCursor (s : State) (c : Mech → Cursor) :
    (s.modMech fun m => { m with cursor := c m }).heads = s.heads := rfl
@[simp] theorem State.rots_modCursor (s : State) (c : Mech → Cursor) :
    (s.modMech fun m => { m with cursor := c m }).rots = s.rots := rfl

@[simp] theorem State.heads_resource (s : State) : s.resource.heads = s.heads := by
  unfold State.resource; split <;> simp
@[simp] theorem State.rots_resource (s : State) : s.resource.rots = s.rots := by
  unfold State.resource; split <;> simp

@[simp] theorem State.heads_beginByte (s : State) (u : Drive) (i : Bool) : (s.beginByte u i).heads = s.heads := by
  unfold State.beginByte; try dsimp only
  (repeat' split) <;> simp
@[simp] theorem State.rots_beginByte (s : State) (u : Drive) (i : Bool) : (s.beginByte u i).rots = s.rots := by
  unfold State.beginByte; try dsimp only
  (repeat' split) <;> simp

@[simp] theorem State.heads_byteBoundary (s : State) (u : Drive) (i : Bool) : (s.byteBoundary u i).heads = s.heads := by
  unfold State.byteBoundary; split <;> simp
@[simp] theorem State.rots_byteBoundary (s : State) (u : Drive) (i : Bool) : (s.byteBoundary u i).rots = s.rots := by
  unfold State.byteBoundary; split <;> simp

@[simp] theorem State.heads_startRotation (s : State) (u : Drive) : (s.startRotation u).heads = s.heads := by
  simp [State.startRotation]

@[simp] theorem State.heads_startSpin (s : State) (u : Drive) : (s.startSpin u).heads = s.heads := by
  unfold State.startSpin; (repeat' split) <;> simp

@[simp] theorem State.heads_stopUnit (s : State) (u : Drive) : (s.stopUnit u).heads = s.heads := by
  unfold State.stopUnit; try dsimp only
  (repeat' split) <;> simp

@[simp] theorem State.heads_byteExpiry (s : State) (u : Drive) : (s.byteExpiry u).heads = s.heads := by
  unfold State.byteExpiry; try dsimp only
  (repeat' split) <;> simp

@[simp] theorem State.heads_leaveMounted (s : State) (u : Drive) : (s.leaveMounted u).heads = s.heads := by
  unfold State.leaveMounted; try dsimp only
  (repeat' split) <;> simp

@[simp] theorem State.heads_selectUnit (s : State) (u : Drive) : (s.selectUnit u).heads = s.heads := by
  simp [State.selectUnit]
@[simp] theorem State.rots_selectUnit (s : State) (u : Drive) : (s.selectUnit u).rots = s.rots := by
  simp [State.selectUnit]
@[simp] theorem State.heads_deselectUnit (s : State) (u : Drive) : (s.deselectUnit u).heads = s.heads := by
  simp [State.deselectUnit]
@[simp] theorem State.rots_deselectUnit (s : State) (u : Drive) : (s.deselectUnit u).rots = s.rots := by
  simp [State.deselectUnit]
@[simp] theorem State.heads_reselect (s : State) (u : Drive) : (s.reselect u).heads = s.heads := by
  unfold State.reselect; try dsimp only
  (repeat' split) <;> simp
@[simp] theorem State.rots_reselect (s : State) (u : Drive) : (s.reselect u).rots = s.rots := by
  unfold State.reselect; try dsimp only
  (repeat' split) <;> simp
@[simp] theorem State.heads_reselectAll (s : State) : s.reselectAll.heads = s.heads := by
  simp [State.reselectAll]
@[simp] theorem State.rots_reselectAll (s : State) : s.reselectAll.rots = s.rots := by
  simp [State.reselectAll]

@[simp] theorem State.heads_motorOnUnit (s : State) (u : Drive) : (s.motorOnUnit u).heads = s.heads := by
  unfold State.motorOnUnit; try dsimp only
  (repeat' split) <;> simp
@[simp] theorem State.heads_motorOffUnit (s : State) (u : Drive) : (s.motorOffUnit u).heads = s.heads := by
  simp [State.motorOffUnit]
@[simp] theorem State.heads_remotor (s : State) (u : Drive) : (s.remotor u).heads = s.heads := by
  unfold State.remotor; try dsimp only
  (repeat' split) <;> simp
@[simp] theorem State.heads_remotorAll (s : State) : s.remotorAll.heads = s.heads := by
  simp [State.remotorAll]

@[simp] theorem State.heads_sideUnit (s : State) (u : Drive) : (s.sideUnit u).heads = s.heads := by
  unfold State.sideUnit; try dsimp only
  (repeat' split) <;> simp
@[simp] theorem State.rots_sideUnit (s : State) (u : Drive) : (s.sideUnit u).rots = s.rots := by
  unfold State.sideUnit; try dsimp only
  (repeat' split) <;> simp
@[simp] theorem State.rots_stepUnit (s : State) (up : Bool) (u : Drive) : (s.stepUnit up u).rots = s.rots := by
  unfold State.stepUnit; try dsimp only
  (repeat' split) <;> simp

@[simp] theorem State.heads_settlePark (s : State) : s.settlePark.heads = s.heads := rfl
@[simp] theorem State.rots_settlePark (s : State) : s.settlePark.rots = s.rots := rfl

@[simp] theorem State.heads_mountEntry (s : State) (u : Drive) (e : Entry) (map : BitVec 168) :
    (s.mountEntry u e map).heads = s.heads := by
  unfold State.mountEntry; try dsimp only
  (repeat' split) <;> simp

@[simp] theorem State.heads_imageHeaderRead (s : State) (u : Drive) (b : List Byte) : (s.imageHeaderRead u b).heads = s.heads := by
  unfold State.imageHeaderRead; (repeat' split) <;> simp

@[simp] theorem State.heads_passSafePoint (s : State) (u : Drive) : (s.passSafePoint u).heads = s.heads := by
  simp [State.passSafePoint]

@[simp] theorem State.heads_removeUnit (s : State) (u : Drive) : (s.removeUnit u).heads = s.heads := by
  unfold State.removeUnit; (repeat' split) <;> simp

@[simp] theorem Link.removed_remembered (k : Link) : k.removed.remembered = k.remembered := rfl

@[simp] theorem State.heads_removeCard (s : State) : s.removeCard.heads = s.heads := by
  have h1 : ∀ x : Store, { x with link := { x.link with state := LinkState.absent } }.core = x.core := fun _ => rfl
  have h2 : ∀ x : Store, { x with link := x.link.removed }.core = x.core := fun _ => rfl
  unfold State.removeCard; try dsimp only
  split <;> simp [State.heads_modStore, h1, h2]

@[simp] theorem State.heads_clock (s : State) : s.clock.heads = s.heads := rfl

/-! ### No operation touches the queue -/

@[simp] theorem State.pending_ite (c : Prop) [Decidable c] (s t : State) :
    (if c then s else t).pending = if c then s.pending else t.pending := apply_ite State.pending c s t

@[simp] theorem State.pending_resource (s : State) : (State.resource s).pending = s.pending := by
  unfold State.resource; try dsimp only
  (repeat' split) <;> simp

@[simp] theorem State.pending_beginByte (s : State) (u : Drive) (index : Bool) :
    (State.beginByte s u index).pending = s.pending := by
  unfold State.beginByte; try dsimp only
  (repeat' split) <;> simp

@[simp] theorem State.pending_byteBoundary (s : State) (u : Drive) (index : Bool) :
    (State.byteBoundary s u index).pending = s.pending := by
  unfold State.byteBoundary; try dsimp only
  (repeat' split) <;> simp

@[simp] theorem State.pending_startRotation (s : State) (u : Drive) : (State.startRotation s u).pending = s.pending := by
  unfold State.startRotation; try dsimp only
  simp

@[simp] theorem State.pending_startSpin (s : State) (u : Drive) : (State.startSpin s u).pending = s.pending := by
  unfold State.startSpin; try dsimp only
  (repeat' split) <;> simp

@[simp] theorem State.pending_stopUnit (s : State) (u : Drive) : (State.stopUnit s u).pending = s.pending := by
  unfold State.stopUnit; try dsimp only
  (repeat' split) <;> simp

@[simp] theorem State.pending_byteExpiry (s : State) (u : Drive) : (State.byteExpiry s u).pending = s.pending := by
  unfold State.byteExpiry; try dsimp only
  (repeat' split) <;> simp

@[simp] theorem State.pending_leaveMounted (s : State) (u : Drive) : (State.leaveMounted s u).pending = s.pending := by
  unfold State.leaveMounted; try dsimp only
  (repeat' split) <;> simp

@[simp] theorem State.pending_selectUnit (s : State) (u : Drive) : (State.selectUnit s u).pending = s.pending := by
  unfold State.selectUnit; try dsimp only
  simp

@[simp] theorem State.pending_deselectUnit (s : State) (u : Drive) : (State.deselectUnit s u).pending = s.pending := by
  unfold State.deselectUnit; try dsimp only
  simp

@[simp] theorem State.pending_reselect (s : State) (u : Drive) : (State.reselect s u).pending = s.pending := by
  unfold State.reselect; try dsimp only
  (repeat' split) <;> simp

@[simp] theorem State.pending_motorOnUnit (s : State) (u : Drive) : (State.motorOnUnit s u).pending = s.pending := by
  unfold State.motorOnUnit; try dsimp only
  (repeat' split) <;> simp

@[simp] theorem State.pending_motorOffUnit (s : State) (u : Drive) : (State.motorOffUnit s u).pending = s.pending := by
  unfold State.motorOffUnit; try dsimp only
  simp

@[simp] theorem State.pending_remotor (s : State) (u : Drive) : (State.remotor s u).pending = s.pending := by
  unfold State.remotor; try dsimp only
  (repeat' split) <;> simp

@[simp] theorem State.pending_reselectAll (s : State) : (State.reselectAll s).pending = s.pending := by
  unfold State.reselectAll; try dsimp only
  simp

@[simp] theorem State.pending_remotorAll (s : State) : (State.remotorAll s).pending = s.pending := by
  unfold State.remotorAll; try dsimp only
  simp

@[simp] theorem State.pending_stepUnit (s : State) (up : Bool) (u : Drive) :
    (State.stepUnit s up u).pending = s.pending := by
  unfold State.stepUnit; try dsimp only
  (repeat' split) <;> simp

@[simp] theorem State.pending_sideUnit (s : State) (u : Drive) : (State.sideUnit s u).pending = s.pending := by
  unfold State.sideUnit; try dsimp only
  (repeat' split) <;> simp

@[simp] theorem State.pending_install (s : State) (copy : List Byte) (table : List Entry) :
    (State.install s copy table).pending = s.pending := by
  unfold State.install; try dsimp only
  simp

@[simp] theorem State.pending_catalogueRead (s : State) (block : List Byte) :
    (State.catalogueRead s block).pending = s.pending := by
  unfold State.catalogueRead; try dsimp only
  (repeat' split) <;> simp

@[simp] theorem State.pending_directoryRead (s : State) (dir : List Byte) :
    (State.directoryRead s dir).pending = s.pending := by
  unfold State.directoryRead; try dsimp only
  (repeat' split) <;> simp

@[simp] theorem State.pending_mountEntry (s : State) (u : Drive) (e : Entry) (map : BitVec 168) :
    (State.mountEntry s u e map).pending = s.pending := by
  unfold State.mountEntry; try dsimp only
  (repeat' split) <;> simp

@[simp] theorem State.pending_imageHeaderRead (s : State) (u : Drive) (block : List Byte) :
    (State.imageHeaderRead s u block).pending = s.pending := by
  unfold State.imageHeaderRead; try dsimp only
  (repeat' split) <;> simp

@[simp] theorem State.pending_passSafePoint (s : State) (u : Drive) : (State.passSafePoint s u).pending = s.pending := by
  unfold State.passSafePoint; try dsimp only
  simp

@[simp] theorem State.pending_removeUnit (s : State) (u : Drive) : (State.removeUnit s u).pending = s.pending := by
  unfold State.removeUnit; try dsimp only
  (repeat' split) <;> simp

@[simp] theorem State.pending_removeCard (s : State) : (State.removeCard s).pending = s.pending := by
  unfold State.removeCard; try dsimp only
  (repeat' split) <;> simp

@[simp] theorem State.pending_holdAction (s : State) (g : Gesture) : (State.holdAction s g).pending = s.pending := by
  unfold State.holdAction; try dsimp only
  (repeat' split) <;> simp

@[simp] theorem State.pending_resetPart (s : State) : (State.resetPart s).pending = s.pending := by
  unfold State.resetPart; try dsimp only
  (repeat' split) <;> simp

@[simp] theorem State.pending_restartPart (s : State) : (State.restartPart s).pending = s.pending := by
  unfold State.restartPart; try dsimp only
  (repeat' split) <;> simp

end Sys2Proof.Machine
end

