-- ==== Sys2Proof/Laws/Flow.lean ====
section
/-! SUPPORT. What only the link's own operations change: its state, a wake apart, and its transaction in progress (R138, R152). One lemma
per shared operation; a proof cites them and does not unfold the operation. -/

namespace Sys2Proof.Machine

/-- The link's state, with PARKED taken as IDLE. -/
def LinkState.awake : LinkState → LinkState
  | .parked => .idle
  | s => s

/-- The link's state, a wake apart, and its transaction in progress. -/
def Store.flow (s : Store) : LinkState × Option Transaction := (s.link.state.awake, s.link.current)

@[simp] theorem Store.flow_mk (a b : UnitStore) (l : Vector Line 8) (n : Nat) (st : Staging) (d : Decoder)
    (m : Vector MarkEntry 8) (w : WriteBack) (i : Images) (k : Link) (p : Panel) :
    (Store.mk a b l n st d m w i k p).flow = (k.state.awake, k.current) := rfl

@[simp] theorem Store.flow_eta (s : Store) : (s.link.state.awake, s.link.current) = s.flow := rfl

@[simp] theorem Store.flow_ite (c : Prop) [Decidable c] (s t : Store) :
    (if c then s else t).flow = if c then s.flow else t.flow := apply_ite Store.flow c s t

@[simp] theorem Store.flow_foldl {α : Type} (f : Store → α → Store) (h : ∀ s x, (f s x).flow = s.flow) (xs : List α) (s : Store) :
    (xs.foldl f s).flow = s.flow := by
  induction xs generalizing s with
  | nil => rfl
  | cons x xs ih => rw [List.foldl_cons, ih, h]

@[simp] theorem Store.flow_modUnit (s : Store) (u : Drive) (f : UnitStore → UnitStore) : (s.modUnit u f).flow = s.flow := by
  cases u <;> rfl

@[simp] theorem Store.flow_modMount (s : Store) (u : Drive) (f : Mount → Mount) : (s.modMount u f).flow = s.flow := by
  simp [Store.modMount]

@[simp] theorem Store.flow_modPanel (s : Store) (f : Panel → Panel) : (s.modPanel f).flow = s.flow := rfl

@[simp] theorem Store.flow_wake (s : Store) : s.wake.flow = s.flow := by
  unfold Store.wake; split
  · rename_i h; simp [Store.flow, LinkState.awake, h]
  · rfl

/-! ### Operations of Machine/Ops.lean -/

@[simp] theorem Store.flow_setUnit (s : Store) (u : Drive) (x : UnitStore) : (Store.setUnit s u x).flow = s.flow := by
  unfold Store.setUnit; try dsimp only
  (repeat' split) <;> simp

@[simp] theorem Store.flow_setLine (s : Store) (l : Fin 8) (x : Line) : (Store.setLine s l x).flow = s.flow := by
  unfold Store.setLine; try dsimp only
  simp

@[simp] theorem Store.flow_modLine (s : Store) (l : Fin 8) (f : Line → Line) : (Store.modLine s l f).flow = s.flow := by
  unfold Store.modLine; try dsimp only
  simp

@[simp] theorem Store.flow_giveCode (s : Store) (c : FaultCode) : (Store.giveCode s c).flow = s.flow := by
  unfold Store.giveCode; try dsimp only
  simp

@[simp] theorem Store.flow_clearCandidate (s : Store) : (Store.clearCandidate s).flow = s.flow := by
  unfold Store.clearCandidate; try dsimp only
  simp

@[simp] theorem Store.flow_queueTail (s : Store) (l : Fin 8) : (Store.queueTail s l).flow = s.flow := by
  unfold Store.queueTail; try dsimp only
  (repeat' split) <;> simp

@[simp] theorem Store.flow_queueHead (s : Store) (l : Fin 8) : (Store.queueHead s l).flow = s.flow := by
  unfold Store.queueHead; try dsimp only
  (repeat' split) <;> simp

@[simp] theorem Store.flow_handOver (s : Store) (l : Fin 8) : (Store.handOver s l).flow = s.flow := by
  unfold Store.handOver; try dsimp only
  (repeat' split) <;> simp

@[simp] theorem Store.flow_handUnpinned (s : Store) (u : Drive) : (Store.handUnpinned s u).flow = s.flow := by
  unfold Store.handUnpinned; try dsimp only
  simp

@[simp] theorem Store.flow_queueUnit (s : Store) (u : Drive) : (Store.queueUnit s u).flow = s.flow := by
  unfold Store.queueUnit; try dsimp only
  simp

@[simp] theorem Store.flow_becameDirty (s : Store) (l : Fin 8) : (Store.becameDirty s l).flow = s.flow := by
  unfold Store.becameDirty; try dsimp only
  (repeat' split) <;> simp

@[simp] theorem Store.flow_lingerOut (s : Store) (u : Drive) : (Store.lingerOut s u).flow = s.flow := by
  unfold Store.lingerOut; try dsimp only
  (repeat' split) <;> simp

@[simp] theorem Store.flow_restartLinger (s : Store) (u : Drive) : (Store.restartLinger s u).flow = s.flow := by
  unfold Store.restartLinger; try dsimp only
  (repeat' split) <;> simp

@[simp] theorem Store.flow_touch (s : Store) (u : Drive) (l : Fin 8) : (Store.touch s u l).flow = s.flow := by
  unfold Store.touch; try dsimp only
  simp

@[simp] theorem Store.flow_touchLeast (s : Store) (u : Drive) (l : Fin 8) : (Store.touchLeast s u l).flow = s.flow := by
  unfold Store.touchLeast; try dsimp only
  simp

@[simp] theorem Store.flow_present (s : Store) (l : Fin 8) : (Store.present s l).flow = s.flow := by
  unfold Store.present; try dsimp only
  (repeat' split) <;> simp

@[simp] theorem Store.flow_askFill (s : Store) (cls : DemandClass) (r : FillReq) :
    (Store.askFill s cls r).flow = s.flow := by
  unfold Store.askFill; try dsimp only
  (repeat' split) <;> simp

@[simp] theorem Store.flow_askCat (s : Store) (r : CatReq) : (Store.askCat s r).flow = s.flow := by
  unfold Store.askCat; try dsimp only
  simp

@[simp] theorem Store.flow_withdraw (s : Store) (l : Fin 8) : (Store.withdraw s l).flow = s.flow := by
  unfold Store.withdraw; try dsimp only
  simp

@[simp] theorem Store.flow_askResume (s : Store) : (Store.askResume s).flow = s.flow := by
  unfold Store.askResume; try dsimp only
  (repeat' split) <;> simp

@[simp] theorem Store.flow_dropTarget (s : Store) (l : Fin 8) : (Store.dropTarget s l).flow = s.flow := by
  unfold Store.dropTarget; try dsimp only
  (repeat' split) <;> simp

@[simp] theorem Store.flow_leaveOrder (s : Store) (l : Fin 8) : (Store.leaveOrder s l).flow = s.flow := by
  unfold Store.leaveOrder; try dsimp only
  (repeat' split) <;> simp

@[simp] theorem Store.flow_freeLine (s : Store) (l : Fin 8) : (Store.freeLine s l).flow = s.flow := by
  unfold Store.freeLine; try dsimp only
  simp

@[simp] theorem Store.flow_freeLines (s : Store) (ls : List (Fin 8)) : (Store.freeLines s ls).flow = s.flow := by
  unfold Store.freeLines; try dsimp only
  simp

@[simp] theorem Store.flow_endClaim (s : Store) : (Store.endClaim s).flow = s.flow := by
  unfold Store.endClaim; try dsimp only
  (repeat' split) <;> simp

/-! ### Operations of Machine/Edits.lean -/

@[simp] theorem Store.flow_edit (s : Store) (l : Fin 8) (blocks : List Nat) : (Store.edit s l blocks).flow = s.flow := by
  unfold Store.edit; try dsimp only
  (repeat' split) <;> simp

@[simp] theorem Store.flow_modRecord (s : Store) (l : Fin 8) (f : TrackRecord → TrackRecord) :
    (Store.modRecord s l f).flow = s.flow := by
  unfold Store.modRecord; try dsimp only
  simp

@[simp] theorem Store.flow_fillFaulted (s : Store) (l : Fin 8) (r : TrackRecord) :
    (Store.fillFaulted s l r).flow = s.flow := by
  unfold Store.fillFaulted; try dsimp only
  (repeat' split) <;> simp

@[simp] theorem Store.flow_mergeInto (s : Store) (l : Fin 8) (c : Claim) : (Store.mergeInto s l c).flow = s.flow := by
  unfold Store.mergeInto; try dsimp only
  (repeat' split) <;> simp

@[simp] theorem Store.flow_mergeClaim (s : Store) (l : Fin 8) (c : Claim) : (Store.mergeClaim s l c).flow = s.flow := by
  unfold Store.mergeClaim; try dsimp only
  simp

@[simp] theorem Store.flow_mergeWaiting (s : Store) (l : Fin 8) : (Store.mergeWaiting s l).flow = s.flow := by
  unfold Store.mergeWaiting; try dsimp only
  (repeat' split) <;> simp

/-! ### Operations of Machine/Mounts.lean -/

@[simp] theorem Store.flow_moveToHead (s : Store) (u : Drive) : (Store.moveToHead s u).flow = s.flow := by
  unfold Store.moveToHead; try dsimp only
  simp

@[simp] theorem Store.flow_enterInterval (s : Store) (u : Drive) (target : Option MountReq) :
    (Store.enterInterval s u target).flow = s.flow := by
  unfold Store.enterInterval; try dsimp only
  (repeat' split) <;> simp

@[simp] theorem Store.flow_enterEmpty (s : Store) (u : Drive) : (Store.enterEmpty s u).flow = s.flow := by
  unfold Store.enterEmpty; try dsimp only
  simp

@[simp] theorem Store.flow_request (s : Store) (u : Drive) (r : MountReq) : (Store.request s u r).flow = s.flow := by
  unfold Store.request; try dsimp only
  (repeat' split) <;> simp

@[simp] theorem Store.flow_servePending (s : Store) (u : Drive) : (Store.servePending s u).flow = s.flow := by
  unfold Store.servePending; try dsimp only
  (repeat' split) <;> simp

@[simp] theorem Store.flow_offerMount (s : Store) (u : Drive) : (Store.offerMount s u).flow = s.flow := by
  unfold Store.offerMount; try dsimp only
  (repeat' split) <;> simp

@[simp] theorem Store.flow_leaveHeld (s : Store) (u : Drive) : (Store.leaveHeld s u).flow = s.flow := by
  unfold Store.leaveHeld; try dsimp only
  (repeat' split) <;> simp

@[simp] theorem Store.flow_heldOrEmpty (s : Store) (u : Drive) : (Store.heldOrEmpty s u).flow = s.flow := by
  unfold Store.heldOrEmpty; try dsimp only
  (repeat' split) <;> simp

@[simp] theorem Store.flow_lookupFails (s : Store) (u : Drive) : (Store.lookupFails s u).flow = s.flow := by
  unfold Store.lookupFails; try dsimp only
  simp

@[simp] theorem Store.flow_badHeader (s : Store) (u : Drive) : (Store.badHeader s u).flow = s.flow := by
  unfold Store.badHeader; try dsimp only
  (repeat' split) <;> simp

@[simp] theorem Store.flow_catalogueInvalid (s : Store) : (Store.catalogueInvalid s).flow = s.flow := by
  unfold Store.catalogueInvalid; try dsimp only
  simp

/-! ### Operations of Machine/Fills.lean -/

@[simp] theorem Store.flow_modDemands (s : Store) (u : Drive) (f : List Demand → List Demand) :
    (Store.modDemands s u f).flow = s.flow := by
  unfold Store.modDemands; try dsimp only
  simp

@[simp] theorem Store.flow_dropDemand (s : Store) (u : Drive) (l : Fin 8) : (Store.dropDemand s u l).flow = s.flow := by
  unfold Store.dropDemand; try dsimp only
  simp

@[simp] theorem Store.flow_stageDemand (s : Store) (u : Drive) (age : Nat) (l : Fin 8) (st : DemandStage) :
    (Store.stageDemand s u age l st).flow = s.flow := by
  unfold Store.stageDemand; try dsimp only
  simp

@[simp] theorem Store.flow_addDemand (s : Store) (u : Drive) (d : Demand) : (Store.addDemand s u d).flow = s.flow := by
  unfold Store.addDemand; try dsimp only
  simp

@[simp] theorem Store.flow_attach (s : Store) (u : Drive) (l : Fin 8) (key : TrackKey) :
    (Store.attach s u l key).flow = s.flow := by
  unfold Store.attach; try dsimp only
  simp

@[simp] theorem Store.flow_startFill (s : Store) (u : Drive) (l : Fin 8) (age : Nat) (cls : DemandClass) (key : TrackKey) :
    (Store.startFill s u l age cls key).flow = s.flow := by
  unfold Store.startFill; try dsimp only
  (repeat' split) <;> simp

@[simp] theorem Store.flow_serveOne (s : Store) (u : Drive) (d : Demand) : (Store.serveOne s u d).flow = s.flow := by
  unfold Store.serveOne; try dsimp only
  (repeat' split) <;> simp

@[simp] theorem Store.flow_serveWaiting (s : Store) (u : Drive) : (Store.serveWaiting s u).flow = s.flow := by
  unfold Store.serveWaiting; try dsimp only
  simp

@[simp] theorem Store.flow_issueDemand (s : Store) (u : Drive) (key : TrackKey) :
    (Store.issueDemand s u key).flow = s.flow := by
  unfold Store.issueDemand; try dsimp only
  (repeat' split) <;> simp

@[simp] theorem Store.flow_reissue (s : Store) (u : Drive) (key : TrackKey) : (Store.reissue s u key).flow = s.flow := by
  unfold Store.reissue; try dsimp only
  split <;> simp

@[simp] theorem Store.flow_refill (s : Store) (u : Drive) (l : Fin 8) (key : TrackKey) :
    (Store.refill s u l key).flow = s.flow := by
  unfold Store.refill; try dsimp only
  simp

@[simp] theorem Store.flow_prefetchKey (s : Store) (u : Drive) (key : TrackKey) :
    (Store.prefetchKey s u key).flow = s.flow := by
  unfold Store.prefetchKey; try dsimp only
  (repeat' split) <;> simp

@[simp] theorem Store.flow_evalPrefetch (s : Store) (u : Drive) : (Store.evalPrefetch s u).flow = s.flow := by
  unfold Store.evalPrefetch; try dsimp only
  (repeat' split) <;> simp

@[simp] theorem Store.flow_cancelDemand (s : Store) (u : Drive) (d : Demand) : (Store.cancelDemand s u d).flow = s.flow := by
  unfold Store.cancelDemand; try dsimp only
  (repeat' split) <;> simp

@[simp] theorem Store.flow_cancelWhere (s : Store) (u : Drive) (test : Demand → Bool) :
    (Store.cancelWhere s u test).flow = s.flow := by
  unfold Store.cancelWhere; try dsimp only
  simp

@[simp] theorem Store.flow_needKey (s : Store) (u : Drive) (key : TrackKey) : (Store.needKey s u key).flow = s.flow := by
  unfold Store.needKey; try dsimp only
  (repeat' split) <;> simp

@[simp] theorem Store.flow_arrive (s : Store) (u : Drive) (head : Nat) (side : Bool) :
    (Store.arrive s u head side).flow = s.flow := by
  unfold Store.arrive; try dsimp only
  (repeat' split) <;> simp

@[simp] theorem Store.flow_fillEndsFree (s : Store) (u : Drive) (l : Fin 8) : (Store.fillEndsFree s u l).flow = s.flow := by
  unfold Store.fillEndsFree; try dsimp only
  split <;> simp

@[simp] theorem Store.flow_fillLoaded (s : Store) (u : Drive) (l : Fin 8) (r : TrackRecord) :
    (Store.fillLoaded s u l r).flow = s.flow := by
  unfold Store.fillLoaded; try dsimp only
  (repeat' split) <;> simp

@[simp] theorem Store.flow_fillFails (s : Store) (u : Drive) (l : Fin 8) : (Store.fillFails s u l).flow = s.flow := by
  unfold Store.fillFails; try dsimp only
  simp

@[simp] theorem Store.flow_fillReadFails (s : Store) (l : Fin 8) : (Store.fillReadFails s l).flow = s.flow := by
  unfold Store.fillReadFails; try dsimp only
  (repeat' split) <;> simp

@[simp] theorem Store.flow_headerRead (s : Store) (l : Fin 8) (block : List Byte) :
    (Store.headerRead s l block).flow = s.flow := by
  unfold Store.headerRead; try dsimp only
  (repeat' split) <;> simp

@[simp] theorem Store.flow_bodyRead (s : Store) (l : Fin 8) (rest : List Byte) :
    (Store.bodyRead s l rest).flow = s.flow := by
  unfold Store.bodyRead; try dsimp only
  (repeat' split) <;> simp

@[simp] theorem Store.flow_safePointLine (s : Store) (u : Drive) (l : Fin 8) :
    (Store.safePointLine s u l).flow = s.flow := by
  unfold Store.safePointLine; try dsimp only
  (repeat' split) <;> simp

@[simp] theorem Store.flow_safePointLines (s : Store) (u : Drive) : (Store.safePointLines s u).flow = s.flow := by
  unfold Store.safePointLines; try dsimp only
  simp

/-! ### Operations of Machine/Decoder.lean -/

@[simp] theorem Store.flow_modCtx (s : Store) (f : SpanCtx → SpanCtx) : (Store.modCtx s f).flow = s.flow := by
  unfold Store.modCtx; try dsimp only
  simp

@[simp] theorem Store.flow_parseClaim (s : Store) (c : Claim) : (Store.parseClaim s c).flow = s.flow := by
  unfold Store.parseClaim; try dsimp only
  simp

@[simp] theorem Store.flow_parseMark (s : Store) (c : Claim) (enc : Encoding) (i : Fin 8) (m : Nat) (ident : Byte) :
    (Store.parseMark s c enc i m ident).flow = s.flow := by
  unfold Store.parseMark; try dsimp only
  (repeat' split) <;> simp

@[simp] theorem Store.flow_startFormat (s : Store) (enc : Encoding) (i : Fin 8) (m : Nat) (ident : Byte) :
    (Store.startFormat s enc i m ident).flow = s.flow := by
  unfold Store.startFormat; try dsimp only
  (repeat' split) <;> simp

@[simp] theorem Store.flow_startData (s : Store) (e : Entry) (i : Fin 8) (m : Nat) (ident : Byte) :
    (Store.startData s e i m ident).flow = s.flow := by
  unfold Store.startData; try dsimp only
  (repeat' split) <;> simp

@[simp] theorem Store.flow_writeTarget (s : Store) (i : Nat) (b : Byte) : (Store.writeTarget s i b).flow = s.flow := by
  unfold Store.writeTarget; try dsimp only
  (repeat' split) <;> simp

@[simp] theorem Store.flow_clearTarget (s : Store) : (Store.clearTarget s).flow = s.flow := by
  unfold Store.clearTarget; try dsimp only
  (repeat' split) <;> simp

@[simp] theorem Store.flow_modLastNew (s : Store) (f : NewSector → NewSector) : (Store.modLastNew s f).flow = s.flow := by
  unfold Store.modLastNew; try dsimp only
  (repeat' split) <;> simp

@[simp] theorem Store.flow_addNewSector (s : Store) (x : NewSector) : (Store.addNewSector s x).flow = s.flow := by
  unfold Store.addNewSector; try dsimp only
  (repeat' split) <;> simp

@[simp] theorem Store.flow_payloadByte (s : Store) (i : Nat) (b : Byte) : (Store.payloadByte s i b).flow = s.flow := by
  unfold Store.payloadByte; try dsimp only
  (repeat' split) <;> simp

@[simp] theorem Store.flow_fieldComplete (s : Store) : (Store.fieldComplete s).flow = s.flow := by
  unfold Store.fieldComplete; try dsimp only
  (repeat' split) <;> simp

@[simp] theorem Store.flow_fieldByte (s : Store) (b : Byte) : (Store.fieldByte s b).flow = s.flow := by
  unfold Store.fieldByte; try dsimp only
  (repeat' split) <;> simp

@[simp] theorem Store.flow_recognized (s : Store) (e : Entry) (i : Fin 8) (m : Nat) (ident : Byte) :
    (Store.recognized s e i m ident).flow = s.flow := by
  unfold Store.recognized; try dsimp only
  (repeat' split) <;> simp

@[simp] theorem Store.flow_searchMfm (s : Store) (e : Entry) (whole : Bool) : (Store.searchMfm s e whole).flow = s.flow := by
  unfold Store.searchMfm; try dsimp only
  (repeat' split) <;> simp

@[simp] theorem Store.flow_searchFm (s : Store) (e : Entry) (whole : Bool) : (Store.searchFm s e whole).flow = s.flow := by
  unfold Store.searchFm; try dsimp only
  (repeat' split) <;> simp

@[simp] theorem Store.flow_halfCell (s : Store) (e : Entry) (p : Nat) (bit : Bool) :
    (Store.halfCell s e p bit).flow = s.flow := by
  unfold Store.halfCell; try dsimp only
  (repeat' split) <;> simp

@[simp] theorem Store.flow_violation (s : Store) : (Store.violation s).flow = s.flow := by
  unfold Store.violation; try dsimp only
  (repeat' split) <;> simp

@[simp] theorem Store.flow_fluxInterval (s : Store) (r : Rotation) (since t : Nat) :
    (Store.fluxInterval s r since t).flow = s.flow := by
  unfold Store.fluxInterval; try dsimp only
  (repeat' split) <;> simp

@[simp] theorem Store.flow_fluxEdge (s : Store) (r : Rotation) (since : Nat) (x : FluxEdge) :
    (Store.fluxEdge s r since x).flow = s.flow := by
  unfold Store.fluxEdge; try dsimp only
  (repeat' split) <;> simp

@[simp] theorem Store.flow_fluxEdges (r : Rotation) (xs : List FluxEdge) (s : Store) :
    (Store.fluxEdges r xs s).flow = s.flow := by
  induction xs generalizing s with
  | nil => rfl
  | cons x xs ih => simp [Store.fluxEdges, ih]

@[simp] theorem Store.flow_startSpan (s : Store) (u : Drive) (side : Bool) (p head : Nat) :
    (Store.startSpan s u side p head).flow = s.flow := by
  unfold Store.startSpan; try dsimp only
  simp

@[simp] theorem Store.flow_overrun (s : Store) (b : Nat) : (Store.overrun s b).flow = s.flow := by
  unfold Store.overrun; try dsimp only
  (repeat' split) <;> simp

@[simp] theorem Store.flow_strayEnd (s : Store) (a b : Nat) : (Store.strayEnd s a b).flow = s.flow := by
  unfold Store.strayEnd; try dsimp only
  (repeat' split) <;> simp

@[simp] theorem Store.flow_formatEnd (s : Store) (b : Nat) : (Store.formatEnd s b).flow = s.flow := by
  unfold Store.formatEnd; try dsimp only
  (repeat' split) <;> simp

@[simp] theorem Store.flow_spanEffect (s : Store) (b : Nat) : (Store.spanEffect s b).flow = s.flow := by
  unfold Store.spanEffect; try dsimp only
  (repeat' split) <;> simp

@[simp] theorem Store.flow_endSpan (s : Store) (b : Nat) (next : DecState) : (Store.endSpan s b next).flow = s.flow := by
  unfold Store.endSpan; try dsimp only
  simp

@[simp] theorem Store.flow_endSpanOf (s : Store) (u : Drive) (b : Nat) : (Store.endSpanOf s u b).flow = s.flow := by
  unfold Store.endSpanOf; try dsimp only
  (repeat' split) <;> simp

@[simp] theorem Store.flow_dropClaim (s : Store) : (Store.dropClaim s).flow = s.flow := by
  unfold Store.dropClaim; try dsimp only
  (repeat' split) <;> simp

@[simp] theorem Store.flow_dropClaimOf (s : Store) (u : Drive) : (Store.dropClaimOf s u).flow = s.flow := by
  unfold Store.dropClaimOf; try dsimp only
  (repeat' split) <;> simp

/-! ### Operations of Machine/Pass.lean -/

@[simp] theorem Store.flow_passEnd (s : Store) : (Store.passEnd s).flow = s.flow := by
  unfold Store.passEnd; try dsimp only
  (repeat' split) <;> simp

@[simp] theorem Store.flow_recordPartEnd (s : Store) : (Store.recordPartEnd s).flow = s.flow := by
  unfold Store.recordPartEnd; try dsimp only
  (repeat' split) <;> simp

@[simp] theorem Store.flow_loseLine (s : Store) (l : Fin 8) : (Store.loseLine s l).flow = s.flow := by
  unfold Store.loseLine; try dsimp only
  (repeat' split) <;> simp

@[simp] theorem Store.flow_cardLoss (s : Store) : (Store.cardLoss s).flow = s.flow := by
  unfold Store.cardLoss; try dsimp only
  (repeat' split) <;> simp

@[simp] theorem Store.flow_catFails (s : Store) (r : CatReq) : (Store.catFails s r).flow = s.flow := by
  unfold Store.catFails; try dsimp only
  (repeat' split) <;> simp

@[simp] theorem Store.flow_takeBlock (s : Store) (l : Fin 8) (b : Nat) : (Store.takeBlock s l b).flow = s.flow := by
  unfold Store.takeBlock; try dsimp only
  simp

@[simp] theorem Store.flow_startPass (s : Store) : (Store.startPass s).flow = s.flow := by
  unfold Store.startPass; try dsimp only
  (repeat' split) <;> simp

@[simp] theorem Store.flow_setPresent (s : Store) : (Store.setPresent s).flow = s.flow := by
  unfold Store.setPresent; try dsimp only
  (repeat' split) <;> simp

@[simp] theorem Store.flow_requestDrain (s : Store) : (Store.requestDrain s).flow = s.flow := by
  unfold Store.requestDrain; try dsimp only
  simp

/-! ### Operations of Machine/Lines.lean -/

@[simp] theorem Store.flow_evalIfFilled (old s : Store) (u : Drive) : (Store.evalIfFilled old s u).flow = s.flow := by
  unfold Store.evalIfFilled; try dsimp only
  (repeat' split) <;> simp

@[simp] theorem Store.flow_stepTaken (s : Store) (u : Drive) (up : Bool) : (Store.stepTaken s u up).flow = s.flow := by
  unfold Store.stepTaken; try dsimp only
  simp

/-! ### Operations of Machine/Catalogue.lean -/

@[simp] theorem Store.flow_failRead (s : Store) (job : ReadJob) : (Store.failRead s job).flow = s.flow := by
  unfold Store.failRead; try dsimp only
  (repeat' split) <;> simp

@[simp] theorem Store.flow_takeCatalogue (s : Store) (copy : List Byte) (table : List Entry) :
    (Store.takeCatalogue s copy table).flow = s.flow := by
  unfold Store.takeCatalogue; try dsimp only
  (repeat' split) <;> simp

@[simp] theorem Store.flow_offerMounts (s : Store) : (Store.offerMounts s).flow = s.flow := by
  unfold Store.offerMounts; try dsimp only
  simp

@[simp] theorem Store.flow_lookupSlot (s : Store) (u : Drive) (n : Nat) : (Store.lookupSlot s u n).flow = s.flow := by
  unfold Store.lookupSlot; try dsimp only
  (repeat' split) <;> simp

@[simp] theorem Store.flow_lookup (s : Store) (u : Drive) : (Store.lookup s u).flow = s.flow := by
  unfold Store.lookup; try dsimp only
  (repeat' split) <;> simp

@[simp] theorem Store.flow_enterMounted (s : Store) (u : Drive) (e : Entry) (map : BitVec 168) :
    (Store.enterMounted s u e map).flow = s.flow := by
  unfold Store.enterMounted; try dsimp only
  simp

@[simp] theorem Store.flow_unhold (s : Store) (l : Fin 8) : (Store.unhold s l).flow = s.flow := by
  unfold Store.unhold; try dsimp only
  simp

@[simp] theorem Store.flow_settleHeld (s : Store) (same locked : Bool) : (Store.settleHeld s same locked).flow = s.flow := by
  unfold Store.settleHeld; try dsimp only
  (repeat' split) <;> simp

@[simp] theorem Store.flow_removeMounted (s : Store) (u : Drive) : (Store.removeMounted s u).flow = s.flow := by
  unfold Store.removeMounted; try dsimp only
  (repeat' split) <;> simp

@[simp] theorem Store.flow_removeChanging (s : Store) (u : Drive) : (Store.removeChanging s u).flow = s.flow := by
  unfold Store.removeChanging; try dsimp only
  simp

@[simp] theorem Store.flow_dropCatalogue (s : Store) : (Store.dropCatalogue s).flow = s.flow := by
  unfold Store.dropCatalogue; try dsimp only
  simp

/-! ### Operations of Machine/CardLink.lean -/

@[simp] theorem Store.flow_inFlight (s : Store) (l : Fin 8) : (Store.inFlight s l).flow = s.flow := by
  unfold Store.inFlight; try dsimp only
  simp

@[simp] theorem Store.flow_takeEnded (s : Store) : (Store.takeEnded s).flow = s.flow := rfl

/-! ### Operations of Machine/PanelOps.lean -/

@[simp] theorem Store.flow_beginGesture (s : Store) (k : Key) : (Store.beginGesture s k).flow = s.flow := by
  unfold Store.beginGesture; try dsimp only
  (repeat' split) <;> simp

@[simp] theorem Store.flow_pressKey (s : Store) (k : Key) : (Store.pressKey s k).flow = s.flow := by
  unfold Store.pressKey; try dsimp only
  (repeat' split) <;> simp

@[simp] theorem Store.flow_toggleUnit (s : Store) : (Store.toggleUnit s).flow = s.flow := by
  unfold Store.toggleUnit; try dsimp only
  (repeat' split) <;> simp

@[simp] theorem Store.flow_stepCandidate (s : Store) (up : Bool) : (Store.stepCandidate s up).flow = s.flow := by
  unfold Store.stepCandidate; try dsimp only
  (repeat' split) <;> simp

@[simp] theorem Store.flow_shortLoad (s : Store) : (Store.shortLoad s).flow = s.flow := by
  unfold Store.shortLoad; try dsimp only
  (repeat' split) <;> simp

@[simp] theorem Store.flow_discard (s : Store) (u : Drive) : (Store.discard s u).flow = s.flow := by
  unfold Store.discard; try dsimp only
  (repeat' split) <;> simp

@[simp] theorem Store.flow_longLoad (s : Store) : (Store.longLoad s).flow = s.flow := by
  unfold Store.longLoad; try dsimp only
  (repeat' split) <;> simp

@[simp] theorem Store.flow_releaseAction (s : Store) (keys : KeySet) : (Store.releaseAction s keys).flow = s.flow := by
  unfold Store.releaseAction; try dsimp only
  (repeat' split) <;> simp

@[simp] theorem Store.flow_releaseFrom (s : Store) (g : Gesture) (rest : KeySet) :
    (Store.releaseFrom s g rest).flow = s.flow := by
  unfold Store.releaseFrom; try dsimp only
  (repeat' split) <;> simp

@[simp] theorem Store.flow_releaseKey (s : Store) (k : Key) (down : KeySet) : (Store.releaseKey s k down).flow = s.flow := by
  unfold Store.releaseKey; try dsimp only
  (repeat' split) <;> simp

@[simp] theorem Store.flow_beginRestart (s : Store) : (Store.beginRestart s).flow = s.flow := by
  unfold Store.beginRestart; try dsimp only
  simp

end Sys2Proof.Machine
end

