-- ==== Sys2Proof/Laws/Pass.lean ====
section
/-! SUPPORT. The next block of a write-back pass, said once (R110). -/

namespace Sys2Proof.Machine

/-- The next block of a pass is the smallest member of the dirty set that lies above the cursor and below the bound (R110). -/
theorem firstBlock_eq_some (cursor : Option Nat) (bound : Nat) (dirty : List Nat) (b : Nat) :
    firstBlock cursor bound dirty = some b ↔
      (b ∈ dirty ∧ b < bound ∧ aboveCursor cursor b = true) ∧
        ∀ x ∈ dirty, x < bound → aboveCursor cursor x = true → b ≤ x := by
  simp [firstBlock, List.min?_eq_some_iff]

/-- No block is left to a pass exactly where no member of the dirty set lies above the cursor and below the bound (R110). -/
theorem firstBlock_eq_none (cursor : Option Nat) (bound : Nat) (dirty : List Nat) :
    firstBlock cursor bound dirty = none ↔ ∀ x ∈ dirty, x < bound → aboveCursor cursor x = false := by
  simp [firstBlock, List.min?_eq_none_iff]

/-- What the statements say of the next block is what the pass computes (R110, R111). -/
theorem nextBlockIs_iff_firstBlock (cursor : Option Nat) (extent slotBlocks : Nat) (dirty : List Nat) (b : Nat) :
    NextBlockIs cursor extent slotBlocks dirty b ↔ firstBlock cursor (min extent slotBlocks) dirty = some b := by
  have above : ∀ x, aboveCursor cursor x = true ↔ ∀ c, cursor = some c → c < x := by
    cases cursor <;> simp [aboveCursor]
  rw [firstBlock_eq_some, NextBlockIs]
  simp only [above]
  constructor
  · rintro ⟨hm, he, hs, ha, hx⟩
    exact ⟨⟨hm, by omega, ha⟩, fun x hd _ h => hx x hd h⟩
  · rintro ⟨⟨hm, hb, ha⟩, hx⟩
    refine ⟨hm, by omega, by omega, ha, fun x hd h => ?_⟩
    rcases Nat.lt_or_ge x (min extent slotBlocks) with hlt | hge
    · exact hx x hd hlt h
    · omega

end Sys2Proof.Machine
end

