-- ==== Sys2Proof/WellFormed.lean ====
section
/-! DEFINITION. Which commands can be commanded at all: the checks on operands that the types do not make. -/

namespace Sys2Proof

/-- A card block has 512 bytes (00, Conventions). -/
def ReadResult.wellFormed : ReadResult → Bool
  | .block data _ => data.length == 512
  | .cardError => true

/-- A command is well formed when its data have the size the spec gives them (R58, R143, R159): a block read from the card has 512 bytes;
DECODED_BYTE carries at least one falling edge, each later than the one before it; and a falling edge of WDATA or STEP is asserted for
some time. -/
def Instr.wellFormed : Instr → Bool
  | .readBlockOutcome r => r.wellFormed
  | .decodedByte edges => !edges.isEmpty && edges.all (fun x => decide (0 < x.since) && decide (0 < x.width))
  | .powerOnReset => true
  | .byteTimeExpiry _ => true
  | .spinUpExpiry _ => true
  | .motorOn _ => true
  | .motorOff _ => true
  | .select _ => true
  | .deselect _ => true
  | .stepPulse edge => decide (0 < edge.width)
  | .arrival _ => true
  | .sideChange => true
  | .wgateAssert => true
  | .wgateRelease => true
  | .fluxViolation => true
  | .demandTakesLine _ => true
  | .headerTransactionEnd => true
  | .bodyTransactionEnd => true
  | .lingerExpiry _ => true
  | .arbiterGrant => true
  | .writeBlockOutcome _ => true
  | .stopBusyEnd => true
  | .linkResponseTimeout => true
  | .readDataTimeout => true
  | .writeBusyTimeout => true
  | .drainComplete => true
  | .cardDetectAssert => true
  | .debounceExpiry => true
  | .initStepResponse _ _ => true
  | .initTimerExpiry => true
  | .cardRemoval => true
  | .parkTimerExpiry => true
  | .catalogueHeaderReadEnd => true
  | .directoryReadEnd => true
  | .safePoint _ => true
  | .changeIntervalExpiry _ => true
  | .imageHeaderReadEnd => true
  | .keyPress _ => true
  | .keyRelease _ => true
  | .holdTimerExpiry => true
  | .candidateTimerExpiry => true
  | .cardDetectRelease => true

end Sys2Proof
end

