-- ==== Sys2Proof/Tests/Slice0.lean ====
section
/-! SUPPORT. The model's own tests: the well-formedness smoke tests, values of the spec's worked examples and tables, one step of each
command on a small state, and, for every obligation with hypotheses, a state that meets them all together. -/

namespace Sys2Proof.Tests

open Sys2Proof.Machine

set_option maxRecDepth 20000

/-! ### Well-formedness -/

theorem test_wf_refuses_short_block : (Instr.readBlockOutcome (.block [0, 1, 2] 0)).wellFormed = false := by decide
theorem test_wf_refuses_no_interval : (Instr.decodedByte []).wellFormed = false := by decide
theorem test_wf_refuses_empty_interval : (Instr.decodedByte [⟨96, 250⟩, ⟨0, 250⟩]).wellFormed = false := by decide
theorem test_wf_refuses_no_width : (Instr.stepPulse ⟨true, 0⟩).wellFormed = false ∧ (Instr.decodedByte [⟨96, 0⟩]).wellFormed = false := by decide
theorem test_wf_takes_block : (Instr.readBlockOutcome (.block (List.replicate 512 0) 0)).wellFormed = true := by decide
theorem test_table_spells_nothing : decodeTableWord 8 3 = none ∧ State.reset.withFetchWord 8 3 = State.reset := by decide

/-! ### Values of the spec -/

/-- CRC of the digits 1 to 9 with preset FFFF and with preset 0000: the polynomial's published check values. -/
theorem test_crc_check_values :
    fieldCrc [0x31, 0x32, 0x33, 0x34, 0x35, 0x36, 0x37, 0x38, 0x39] = 0x29B1 ∧
      linkCheck [0x31, 0x32, 0x33, 0x34, 0x35, 0x36, 0x37, 0x38, 0x39] = 0x31C3 := by decide

/-- An A1 byte with clock 0A and a C2 byte with clock 14 are the MFM sync words 4489 and 5224 (section 3.1). -/
theorem test_mfm_sync_words : halfCells 0x0A 0xA1 = 0x4489 ∧ halfCells 0x14 0xC2 = 0x5224 := by decide

/-- R38: the FM identifier FE with clock C7. -/
theorem test_fm_mark_word : halfCells 0xC7 0xFE = 0xF57E := by decide

/-- The image of the worked examples of sections 1.7, 2.6 and 3.5: MFM 250 kbit/s, 300 rpm, 80 cylinders, 2 heads. -/
def image7 : Entry :=
  { slot := 7, format := 3, heads := 2, cimg := 80, base := 100, rpm := 300, k := 5, sync := 12, fill := 0x4E, g2 := 22,
    policy := .persist, guardCount := 0, guardSide := .low, valid := true }

/-- Section 2.6: D = 48, T = 6,250, W = 63. -/
theorem test_rotation_of_image : rotParams image7 = ⟨250000, 48, 6250, 63⟩ := by decide

/-- Sector `i` of section 1.7. -/
def sector17 (i : Nat) : Sector :=
  { pos := 146 + 658 * i, c := 2, h := 0, r := BitVec.ofNat 8 (i + 1), n := 2, ident := 0xFE, idFault := false,
    data := some { d := 56, kind := .data, ident := 0xFB, fault := true, bytes := [] }, overflow := false, shifted := false }

/-- The record of section 1.7. -/
def record17 : TrackRecord :=
  { key := ⟨7, 2, 0⟩, blank := false, enc := .mfm, sync := 12, fill := 0x4E, indexPos := some 80, truncated := false,
    sectors := (List.range 9).map sector17 }

/-- Section 1.7: ID length 22, default offset 56, footprint 574, index-mark length 16. -/
theorem test_field_lengths :
    idLength .mfm 12 = 22 ∧ defaultOffset .mfm 12 22 = 56 ∧ footprint .mfm 12 (sector17 0) = 574 ∧ indexLength .mfm 12 = 16 := by
  decide

/-- Section 1.7: 4,816 bytes in 10 blocks; a full data edit of sector 3 touches blocks 0, 3 and 4, of sector 8 blocks 0, 8, 9. -/
theorem test_record_blocks :
    recordLength record17 = 4816 ∧ blockCount 4816 = 10 ∧ dataOffset record17.sectors 3 = 1744 ∧
      descriptorBlocks 3 ++ blocksOf 1744 512 = [0, 3, 4] ∧ descriptorBlocks 8 ++ blocksOf 4304 512 = [0, 8, 9] := by
  decide

/-- Section 1.7: nothing is shifted; at 360 rpm (T = 5,208) sectors 7 and 8 overflow, at 300 rpm none. -/
theorem test_layout_overflow :
    (layoutCheck 6250 record17).sectors.map Sector.overflow = List.replicate 9 false ∧
      (layoutCheck 5208 record17).sectors.map Sector.overflow = List.replicate 7 false ++ [true, true] ∧
      (layoutCheck 6250 record17).sectors.map Sector.shifted = List.replicate 9 false := by
  decide

/-- Section 3.5: fill, index mark, identifier and gap bytes of the stream. -/
theorem test_stream_bytes :
    recordByte defaultMarks 6250 record17 79 = .plain 0x4E ∧ recordByte defaultMarks 6250 record17 80 = .plain 0 ∧
      recordByte defaultMarks 6250 record17 92 = .mark 0xC2 0x14 ∧ recordByte defaultMarks 6250 record17 95 = .plain 0xFC ∧
      recordByte defaultMarks 6250 record17 158 = .mark 0xA1 0x0A ∧ recordByte defaultMarks 6250 record17 161 = .plain 0xFE ∧
      recordByte defaultMarks 6250 record17 165 = .plain 2 ∧ recordByte defaultMarks 6250 record17 189 = .plain 0x4E ∧
      recordByte defaultMarks 6250 record17 190 = .plain 0 ∧ recordByte defaultMarks 6250 record17 205 = .plain 0xFB ∧
      recordByte defaultMarks 6250 record17 720 = .plain 0x4E ∧ recordByte defaultMarks 6250 record17 804 = .plain 0 := by
  decide

/-- R123: a stored record of FF bytes is clamped to the upper bounds, with quotas 6 and 2. -/
theorem test_clamp_upper :
    let c := clampConfig (List.replicate 512 0xFF)
    c.cphys = 84 ∧ c.spinUp = 2000 ∧ c.change = 5000 ∧ c.settle = 50 ∧ c.linger = 30000 ∧ c.park = 60 ∧ c.quotaA = 6 ∧
      c.quotaB = 2 := by
  decide

/-- Section 10.10: from slot 7, UP reaches 31 and then wraps to 2; DOWN from 2 wraps to 31. -/
theorem test_walk_slots :
    walkSlots true (some 7) [2, 7, 31] = some 31 ∧ walkSlots true (some 31) [2, 7, 31] = some 2 ∧
      walkSlots false (some 2) [2, 7, 31] = some 31 ∧ walkSlots true none [] = none := by
  decide

/-! ### Small states -/

/-- Unit A's mount context with the image mounted. -/
def mounted7 : Mount :=
  { state := .mounted, slot := some 7, entry := some image7, map := some 1, ratio := 1, target := none, pending := none,
    timer := none }

/-- A card of 20,000 blocks in the socket, initialized. -/
def cardUp : Link := { Link.reset with state := .idle, capacity := some 20000, lock := some false, identity := some ⟨1, 1⟩ }

/-- Unit A has the image mounted and is selected, with a card in the socket. -/
def ready : State :=
  { State.reset with
    mech := { Mech.reset with
      pins := { Pins.released with sel0 := true },
      a := ⟨{ Rotation.reset with params := some (rotParams image7) }, { UnitLines.reset with selected := true }⟩,
      cursor := { Cursor.reset with source := some .a } },
    store := { Store.reset with
      a := { UnitStore.reset with mount := mounted7 },
      images := { Images.reset with catalogue := some (List.replicate 512 0), table := [image7] },
      link := cardUp } }

/-- The state `ready` with unit A's rotation timer changed. -/
def readyRot (f : Rotation → Rotation) : State := { ready with mech := ready.mech.modRot .a f }

/-- The state `ready` with unit A turning at position `p`. -/
def turning (p : Nat) : State :=
  { readyRot (fun r => { r with state := .rotating, p := p, divider := 768 }) with store := ready.store }

/-- The state `ready` with its store changed. -/
def readyStore (f : Store → Store) : State := { ready with store := f ready.store }

/-- The state `ready` with the link changed. -/
def readyLink (f : Link → Link) : State := readyStore fun s => { s with link := f s.link }

/-- The state `ready` with the panel changed. -/
def readyPanel (f : Panel → Panel) : State := readyStore fun s => { s with panel := f s.panel }

/-- The state `ready` with unit A's mount context changed. -/
def readyMount (f : Mount → Mount) : State := readyStore fun s => { s with a := { s.a with mount := f s.a.mount } }

/-- The state `ready` with one cache line set. -/
def readyLine (l : Fin 8) (x : Line) : State := readyStore fun s => s.setLine l x

/-- The state `ready` with the decoder changed. -/
def readyCtx (st : DecState) (f : SpanCtx → SpanCtx) : State := readyStore fun s => { s with decoder := ⟨st, f s.decoder.ctx⟩ }

/-- The next state of a command. -/
def after (c : Instr) (s : State) : State :=
  match exec c s with
  | .next t => t
  | .fault f => nomatch f
  | .refused _ => s

/-! ### One step of each command -/

/-- R28: the expiry that would take p to T takes it to 0. -/
theorem test_byte_expiry_wraps : ((after (.byteTimeExpiry .a) (turning 6249)).mech.a.rot.p) = 0 := by decide
/-- R28: p advances by one. -/
theorem test_byte_expiry_advances : ((after (.byteTimeExpiry .a) (turning 62)).mech.a.rot.p) = 63 := by decide
/-- R29: the index level is released as p goes from 62 to 63. -/
theorem test_index_released : (turning 62).indexOut = true ∧ (after (.byteTimeExpiry .a) (turning 62)).indexOut = false := by decide
/-- R31: motor on with the image mounted starts 400 ms of spin-up. -/
theorem test_motor_on_spins : (after (.motorOn .l0) ready).mech.a.rot.state = .spinning ∧
    (after (.motorOn .l0) ready).mech.a.rot.spinUp = some 9600000 := by decide
/-- R158: MOTOR1 is not unit A's line under the default mapping. -/
theorem test_motor_on_other_line : (after (.motorOn .l1) ready).mech.a.rot.state = .stopped := by decide
/-- R156: the select line of the disabled unit B selects nothing. -/
theorem test_select_disabled_unit : (after (.select .l1) ready).mech.b.lines.selected = false := by decide
/-- R159: a step toward lower cylinders at 0 is accepted and stays. -/
theorem test_step_down_at_zero : (after (.stepPulse ⟨false, 1000⟩) ready).mech.a.lines.head = 0 ∧
    (after (.stepPulse ⟨false, 1000⟩) ready).mech.a.lines.settle = some 72000 := by decide
/-- R168: the first accepted step of a mounted unit clears the change latch, so RDYCHG is released. -/
theorem test_step_clears_latch : ready.rdychgOut = true ∧ (after (.stepPulse ⟨true, 1000⟩) ready).rdychgOut = false := by decide
/-- R166: TRACK0 is released one step in. -/
theorem test_step_leaves_track0 : (after (.stepPulse ⟨true, 1000⟩) ready).track0Out = false := by decide
/-- R183: STEP asserted for less than 1 us moves nothing. -/
theorem test_step_too_short : (after (.stepPulse ⟨true, 999⟩) ready).mech.a = ready.mech.a := by decide
/-- R85, R90, R126: an arrival at cylinder 0 demands side 0's slot at block 101, and holds side 1, whose map bit is clear, blank. -/
theorem test_arrival_demands :
    (after (.arrival .a) { ready with mech := ready.mech.modLines .a fun l => { l with settle := some 0 } }).store.link.demandQ
      = [⟨0, false, 0, 101, 1⟩] := by decide
theorem test_arrival_blank_side :
    ((after (.arrival .a) { ready with mech := ready.mech.modLines .a fun l => { l with settle := some 0 } }).store.line 1).state
      = .clean := by decide
/-- R164: a deselected unit's side does not follow SIDE. -/
theorem test_side_change : (after .sideChange ready).mech.a.lines.side = true ∧
    (after .sideChange ready).mech.b.lines.side = false := by decide
/-- R54: a stopped unit begins no span; a turning one does. -/
theorem test_wgate_stopped : (after .wgateAssert ready).store.decoder.state = .idle := by decide
theorem test_wgate_turning : (after .wgateAssert (turning 10)).store.decoder.state = .capture ∧
    (after .wgateAssert (turning 10)).store.decoder.ctx.track = some ⟨7, 0, 0⟩ := by decide
/-- R57, R77: a span released over a track that no line holds leaves the decoder IDLE and every line as it is. -/
theorem test_wgate_release : (after .wgateRelease (after .wgateAssert (turning 10))).store.decoder.state = .idle ∧
    (after .wgateRelease (after .wgateAssert (turning 10))).store.lines = ready.store.lines := by decide
/-- R58: at D = 48 an interval of 96 clocks is two half-cells, 0 and then 1. -/
theorem test_flux_interval :
    (after (.decodedByte [⟨20, 250⟩, ⟨96, 250⟩]) (after .wgateAssert (turning 10))).store.decoder.ctx.window =
      [(true, 10), (false, 10)] := by decide
/-- R183: an assertion of 100 ns within the interval is no pulse. R30, R58: with the byte boundary 30 clocks back, the half-cell that was
received 48 clocks back has the position before it. -/
theorem test_flux_over_boundary :
    let s := after .wgateAssert (turning 9)
    let t : State := { s with mech := s.mech.modRot .a fun r => { r with p := 10, divider := 30 } }
    (after (.decodedByte [⟨20, 250⟩, ⟨50, 100⟩, ⟨46, 250⟩]) t).store.decoder.ctx.window = [(true, 10), (false, 9)] := by decide
/-- R58: at D = 48 an interval of 71 clocks is a violation. -/
theorem test_flux_violation : classifyInterval .mfm 48 71 = none ∧ classifyInterval .mfm 48 72 = some 2 := by decide
/-- R140: the contact's assertion starts 50 ms. -/
theorem test_card_detect : (after .cardDetectAssert State.reset).store.link.debounce = some 1200000 := by decide
/-- R144: a third failure of a catalogue read makes the catalogue invalid with E2. -/
theorem test_read_third_failure :
    (after (.readBlockOutcome .cardError) (readyLink fun k => { k with
      state := .busy, current := some (.read ⟨.catHeader, .catalogue, 0, 1, 0, 3, none, []⟩) })).store.panel.code = some .e2 := by
  decide
/-- R151: with the card up and nothing to do, the park timer starts with 5 s. -/
theorem test_park_starts : (after .fluxViolation ready).store.link.park = some 120000000 := by decide
/-- R152: motor on wakes a parked link. -/
theorem test_motor_wakes : (after (.motorOn .l0) (readyLink fun k => { k with state := .parked })).store.link.state = .idle := by
  decide
/-- R128: a short LOAD with a candidate takes the mounted unit to UNMOUNTING with the request pending. -/
theorem test_load_requests :
    let s := readyPanel fun p => { p with candidate := some 2, gesture := some ⟨KeySet.one .kLoad, some 5, false⟩ }
    let t := after (.keyRelease .kLoad) { s with mech := { s.mech with pins := { s.mech.pins with keys := KeySet.one .kLoad } } }
    t.store.a.mount.state = .unmounting ∧ t.store.a.mount.pending = some (.slot 2) ∧ t.store.panel.candidate = none := by
  decide
/-- R178: a press while the fault display is on clears it. -/
theorem test_press_clears_fault : (after (.keyPress .kUp) (readyPanel fun p => { p with faultOn := true })).store.panel.faultOn = false
    := by decide
/-- R177: the display shows the addressed unit and the mounted slot. -/
theorem test_display : ready.store.displayChars = (('A', false), ('0', false), ('7', false)) := by decide
/-- R177, R183: the multiplex drives the unit letter first, with the panel protect point. -/
theorem test_display_pins : ready.ddigOut = 1 ∧ ready.dsegOut = 0x77 ∧
    ({ ready with mech := ready.mech.modLines .a fun l => { l with protect := true } } : State).dsegOut = 0xF7 := by decide
/-- R176: a press that falls together with a restart, after it, is ignored until release and begins no gesture. -/
theorem test_press_with_restart :
    let s := after .drainComplete (readyStore fun s =>
      { s with wb := { s.wb with drain := true }, panel := { s.panel with restart := true } })
    (after (.keyPress .kLoad) s).store.panel.gesture = none ∧
      (after (.keyPress .kLoad) s).store.panel.ignored = KeySet.one .kLoad ∧
      (after (.keyPress .kLoad) s.clock).store.panel.gesture.isSome = true := by decide
/-- R87: when an abandoned line becomes FREE, no demand is issued for another pinned key without a line. -/
theorem test_abandoned_fill_end :
    let s := readyStore fun s => { s.setLine 0 ⟨.filling, some .a, some ⟨7, 5, 0⟩, none, [], false, true, []⟩ with
      a := { s.a with cylKeys := [⟨7, 0, 0⟩] }, link := { s.link with ended := some (.fillHeader 0, []) } }
    (after .headerTransactionEnd s).store.line 0 = Line.free ∧ (after .headerTransactionEnd s).store.a.demands = [] := by decide
/-- R131: a slot absent from the table leaves the unit EMPTY. -/
theorem test_lookup_absent :
    (after (.changeIntervalExpiry .a) (readyMount fun _ =>
      { Mount.reset with state := .changingInterval, target := some (.slot 9) })).store.a.mount.state = .empty := by decide

/-! ### Witnesses: each obligation's hypotheses are met together -/

theorem witness_invariants : State.reset.HeadsOk ∧ State.reset.RotationsOk ∧ State.reset.BusyOk ∧ State.reset.LatchesOk ∧
    step State.reset = .next State.reset.clock := by
  refine ⟨?_, ⟨⟨nofun, rfl, rfl⟩, ⟨nofun, rfl, rfl⟩⟩, ?_, ?_, rfl⟩
  · unfold State.HeadsOk UnitLines.headOk
    decide
  · unfold State.BusyOk
    decide
  · intro u
    cases u <;> decide

/-- Unit A's line 3 is DIRTY and queued, with a demand of the unit. -/
def queued3 : State :=
  readyStore fun s =>
    { s.setLine 3 ⟨.dirty, some .a, some ⟨7, 0, 0⟩, none, [0], false, false, []⟩ with
      a := { s.a with demands := [⟨⟨7, 0, 1⟩, .demand, 0, none, .waiting⟩] }, nextAge := 1, wb := { s.wb with queue := [3] } }

theorem witness_CacheKeepsItsRules : queued3.store.CacheOk ∧ step queued3 = exec (.demandTakesLine .a) queued3 := by
  have h : ∀ l : Fin 8, (queued3.store.line l).state ≠ .free → l = 3 := by decide
  refine ⟨⟨fun l m k hl hm _ _ => (h l hl).trans (h m hm).symm, by decide, by decide, by decide, ?_⟩, rfl⟩
  intro u
  cases u <;> decide

theorem witness_CacheRules_ready :
    ({ ready.store with images := { ready.store.images with config := { WorkConfig.default with prefetch := false } } } : Store).CacheOk :=
  by
  have h : ∀ l : Fin 8, (ready.store.line l).state = .free := by decide
  refine ⟨fun l m k hl _ _ _ => absurd (h l) hl, by decide, by decide, by decide, ?_⟩
  intro u
  cases u <;> decide

theorem witness_rotations_turning : (turning 6249).RotationsOk := by
  refine ⟨⟨?_, ?_⟩, ⟨nofun, rfl, rfl⟩⟩
  · intro q h; cases h; decide
  · exact ⟨rotParams image7, rfl, by decide, by decide⟩

theorem witness_TablesChangeOnlyAtTheirEvents : exec .fluxViolation ready = .next ready.settlePark ∧
    Instr.fluxViolation ≠ .powerOnReset ∧ Instr.fluxViolation ≠ .drainComplete ∧ Instr.fluxViolation ≠ .catalogueHeaderReadEnd ∧
    Instr.fluxViolation ≠ .directoryReadEnd ∧ ∀ r lock, Instr.fluxViolation ≠ .initStepResponse r lock :=
  ⟨rfl, by decide, by decide, by decide, by decide, nofun⟩

theorem witness_rates : image7.format ≤ 5 ∧ ({ image7 with format := 0, rpm := 400 } : Entry).format ≤ 5 ∧
    ({ image7 with format := 5, rpm := 250 } : Entry).format ≤ 5 := by decide

theorem witness_byte_due : (turning 0).mech.a.rot.state = .rotating ∧
    (turning 0).mech.a.rot.params = some (rotParams image7) ∧ (turning 0).mech.a.rot.byteDue = true := by decide

theorem witness_ByteTimeExpiryAdvances :
    (turning 6249).mech.a.rot.state = .rotating ∧ (turning 6249).mech.a.rot.params = some (rotParams image7) ∧
      (rotParams image7).t ≤ (turning 6249).mech.a.rot.p + 1 ∧ (turning 6249).store.spanBound .a = false ∧
      (turning 6248).mech.a.rot.p + 1 < (rotParams image7).t := by decide

theorem witness_ByteTimeExpiry_span :
    (after .wgateAssert (turning 6249)).store.spanBound .a = true ∧
      (rotParams image7).t ≤ (after .wgateAssert (turning 6249)).mech.a.rot.p + 1 := by decide

/-- Unit A turns at `p` with the record of section 1.7 resident under its head. -/
def showing (p : Nat) : State :=
  { turning p with store := ready.store.setLine 0 ⟨.clean, some .a, some ⟨7, 0, 0⟩, some record17, [], false, false, []⟩ }

theorem witness_Sends :
    (showing 157).mech.cursor.source = some .a ∧ (showing 157).mech.pins.wgate = false ∧
      (showing 157).store.a.mount.trackAt (showing 157).mech.a.lines.head (showing 157).mech.a.lines.side = some ⟨7, 0, 0⟩ ∧
      (showing 157).store.residentOf ⟨7, 0, 0⟩ = some 0 ∧ ((showing 157).store.line 0).record = some record17 ∧
      record17.blank = false ∧ ((showing 157).store.line 0).owner = some .a ∧
      (turning 157).store.residentOf ⟨7, 0, 0⟩ = none := by decide

/-- R42, R48 and section 3.5: position 158 is sent as the sync word 4489. -/
theorem test_byte_expiry_sends_mark : (after (.byteTimeExpiry .a) (showing 157)).mech.cursor.cells = 0x4489 := by decide

theorem witness_SpinUpExpiryStartsRotation : (after (.motorOn .l0) ready).mech.a.rot.state = .spinning := by decide

theorem witness_MotorOnStartsSpinUp :
    motorLevel ready.store.images.config (ready.mech.pins.setMotor .l0 true) .a = true ∧ ready.mech.a.lines.motorIn = false ∧
      motorLevel ready.store.images.config (ready.mech.pins.setMotor .l0 true) .b = ready.mech.b.lines.motorIn ∧
      ready.store.mounted .a = true ∧ ready.mech.a.rot.state = .stopped ∧ ready.mech.a.rot.params.isSome = true ∧
      0 < ready.store.images.config.spinUp := by decide

theorem witness_MotorOn_unmounted :
    motorLevel State.reset.store.images.config (State.reset.mech.pins.setMotor .l0 true) .a = true ∧
      State.reset.mech.a.lines.motorIn = false ∧
      motorLevel State.reset.store.images.config (State.reset.mech.pins.setMotor .l0 true) .b = State.reset.mech.b.lines.motorIn ∧
      State.reset.store.mounted .a = false ∧ 0 < State.reset.store.images.config.spinUp := by decide

theorem witness_MotorOffStopsRotation :
    let s := after (.motorOn .l0) ready
    motorLevel s.store.images.config (s.mech.pins.setMotor .l0 false) .a = false ∧ s.mech.a.lines.motorIn = true ∧
      motorLevel s.store.images.config (s.mech.pins.setMotor .l0 false) .b = s.mech.b.lines.motorIn ∧
      s.store.spanBound .a = false := by decide

/-- Unit A turns at 10 with its motor input asserted and a span bound to it. -/
def bound : State :=
  let s := after .wgateAssert (turning 10)
  { s with mech := s.mech.modLines .a fun l => { l with motorIn := true } }

theorem witness_MotorOff_bound :
    motorLevel bound.store.images.config (bound.mech.pins.setMotor .l0 false) .a = false ∧ bound.mech.a.lines.motorIn = true ∧
      motorLevel bound.store.images.config (bound.mech.pins.setMotor .l0 false) .b = bound.mech.b.lines.motorIn ∧
      bound.store.spanBound .a = true ∧ bound.mech.a.rot.p = 10 ∧ bound.mech.cursor.source = some .a := by decide

theorem witness_MotorOff_shared :
    let config : WorkConfig := { WorkConfig.default with enableB := true, sharedMotor := true }
    let s : State := { bound with
      mech := bound.mech.modLines .b fun l => { l with motorIn := true },
      store := { bound.store with images := { bound.store.images with config := config } } }
    motorLevel s.store.images.config (s.mech.pins.setMotor .l0 false) .a = false ∧ s.mech.a.lines.motorIn = true ∧
      motorLevel s.store.images.config (s.mech.pins.setMotor .l0 false) .b = false ∧ s.mech.b.lines.motorIn = true := by decide

theorem witness_SelectTakesSideAndSource :
    selectLevel State.reset.store.images.config (State.reset.mech.pins.setSel .l0 true) .a = true ∧
      State.reset.mech.a.lines.selected = false ∧
      selectLevel State.reset.store.images.config (State.reset.mech.pins.setSel .l0 true) .b =
        State.reset.mech.b.lines.selected := by decide

theorem witness_DeselectKeepsUnit :
    selectLevel ready.store.images.config (ready.mech.pins.setSel .l0 false) .a = false ∧ ready.mech.a.lines.selected = true ∧
      selectLevel ready.store.images.config (ready.mech.pins.setSel .l0 false) .b = ready.mech.b.lines.selected ∧
      ready.store.spanBound .a = false := by decide

theorem witness_Deselect_bound :
    let s : State := { bound with
      mech := bound.mech.modLines .b fun l => { l with selected := true },
      store := { bound.store with images := { bound.store.images with config := { WorkConfig.default with enableB := true } } } }
    let t : State := { s with mech := { s.mech with pins := { s.mech.pins with sel1 := true } } }
    selectLevel bound.store.images.config (bound.mech.pins.setSel .l0 false) .a = false ∧ bound.mech.a.lines.selected = true ∧
      selectLevel bound.store.images.config (bound.mech.pins.setSel .l0 false) .b = bound.mech.b.lines.selected ∧
      bound.store.spanBound .a = true ∧ (after (.deselect .l0) bound).store.decoder.state = .draining ∧
      selectLevel t.store.images.config (t.mech.pins.setSel .l0 false) .b = t.mech.b.lines.selected ∧
      t.mech.b.lines.selected = true := by decide

theorem witness_StepPulseMovesHead :
    ready.mech.a.lines.selected = true ∧ ready.store.spanBound .a = false ∧ ready.mech.b.lines.selected = false ∧
      ready.store.a.demands = [] ∧ 1000 ≤ 1000 ∧ 999 < 1000 := by decide

/-- Line 1 of unit A is FILLING for cylinder 1 under a PREFETCH demand that waits in its queue, with cylinder keys. -/
def prefetching (cylKeys : List TrackKey) : State :=
  readyStore fun s => { s.setLine 1 ⟨.filling, some .a, some ⟨7, 1, 0⟩, none, [], false, false, []⟩ with
    a := { s.a with cylKeys := cylKeys, demands := [⟨⟨7, 1, 0⟩, .prefetching, 0, some 1, .queued⟩] }, nextAge := 1,
    link := { s.link with prefetchQ := [⟨1, false, 0, 165, 1⟩] } }

theorem prefetching_cacheOk : (prefetching []).store.CacheOk ∧ (prefetching [⟨7, 1, 0⟩]).store.CacheOk := by
  have h : ∀ l : Fin 8, ((prefetching []).store.line l).state ≠ .free → l = 1 := by decide
  have h' : ∀ l : Fin 8, ((prefetching [⟨7, 1, 0⟩]).store.line l).state ≠ .free → l = 1 := by decide
  refine ⟨⟨fun l m k hl hm _ _ => (h l hl).trans (h m hm).symm, by decide, by decide, by decide, ?_⟩,
    ⟨fun l m k hl hm _ _ => (h' l hl).trans (h' m hm).symm, by decide, by decide, by decide, ?_⟩⟩ <;>
  · intro u
    cases u <;> decide

theorem witness_StepPulse_cancels :
    let d : Demand := ⟨⟨7, 1, 0⟩, .prefetching, 0, some 1, .queued⟩
    let s := prefetching []
    let t := prefetching [⟨7, 1, 0⟩]
    d ∈ s.store.a.demands ∧ d.cls = .prefetching ∧ d.stage ≠ .inFlight ∧ d.key ∉ s.store.pinSet .a ∧
      (s.store.line 1).state = .filling ∧ (after (.stepPulse ⟨true, 1000⟩) s).store.line 1 = Line.free ∧
      (after (.stepPulse ⟨true, 1000⟩) s).store.link.prefetchQ = [] ∧
      d.key ∈ t.store.pinSet .a ∧ t.store.staging = .empty ∧ t.store.link.available = true := by decide

theorem witness_BoundUnitIgnoresStep :
    (after .wgateAssert (turning 10)).store.spanBound .a = true ∧
      (after .wgateAssert (turning 10)).mech.b.lines.selected = false := by decide

theorem witness_BoundUnit_other :
    let s := after .wgateAssert (turning 10)
    let t : State := { s with mech := s.mech.modLines .b fun l => { l with selected := true } }
    t.store.spanBound .a = true ∧ (t.mech.unit Drive.a.other).lines.selected = true := by decide

theorem witness_ArrivalSetsCylinderKeys :
    let s : State := { ready with mech := ready.mech.modLines .a fun l => { l with settle := some 0, head := 79 } }
    s.mech.a.lines.settle.isSome = true ∧ s.store.mounted .a = true ∧ s.store.a.mount.entry = some image7 ∧
      s.store.a.mount.slot = some 7 ∧ image7.heads ≤ 2 ∧ s.store.link.available = true ∧ s.store.a.demands = [] := by decide

/-- Unit A arrives at cylinder 0 with a DIRTY line of cylinder 5 that waits in no queue. -/
def arrivingDirty (state : MountState) : State :=
  { readyStore (fun s => { s.setLine 4 ⟨.dirty, some .a, some ⟨7, 5, 0⟩, none, [0], false, false, []⟩ with
      a := { s.a with mount := { mounted7 with state := state } } }) with
    mech := ready.mech.modLines .a fun l => { l with settle := some 0 } }

/-- R86, R104, R106: the line joins the queue, at the tail, or at the head for an UNMOUNTING unit. -/
theorem witness_Arrival_handed :
    ((arrivingDirty .mounted).store.line 4).state = .dirty ∧ (4 : Fin 8) ∉ (arrivingDirty .mounted).store.wb.queue ∧
      ((arrivingDirty .mounted).store.line 4).key ≠ some ⟨7, 0, 0⟩ ∧
      (∀ c, (arrivingDirty .mounted).store.staging ≠ .waiting c) ∧ (arrivingDirty .unmounting).store.a.mount.state = .unmounting ∧
      (after (.arrival .a) (arrivingDirty .mounted)).store.wb.queue = [4] ∧
      (after (.arrival .a) (arrivingDirty .unmounting)).store.wb.queue = [4] :=
  ⟨by decide, by decide, by decide, nofun, by decide, by decide, by decide⟩

/-- Unit A arrives at cylinder 0 of a single-headed image with tracks 0 and 1 on the card, or with those of `map`. -/
def arriving (map : BitVec 168) (prefetch : Bool) (f : Store → Store) : State :=
  { ready with
    mech := ready.mech.modLines .a fun l => { l with settle := some 0 },
    store := f { ready.store with
      a := { ready.store.a with mount := { mounted7 with entry := some { image7 with heads := 1 }, map := some map } },
      images := { ready.store.images with config := { WorkConfig.default with prefetch := prefetch } } } }

theorem witness_ArrivalFillsItsKey :
    let s := arriving 3 false id
    s.mech.a.lines.settle.isSome = true ∧ s.store.link.available = true ∧ s.store.staging = .empty ∧ s.store.a.demands = [] ∧
      s.store.mounted .a = true ∧ s.store.a.mount.entry = some { image7 with heads := 1 } ∧
      s.store.a.mount.slot = some 7 ∧ s.store.a.mount.map = some 3 ∧ s.store.a.mount.ratio = 1 ∧
      s.mech.a.lines.head < image7.cimg ∧ s.store.lineOf ⟨7, 0, 0⟩ = none ∧ (s.store.line 0).state = .free ∧
      (∀ k, k < (0 : Fin 8) → (s.store.line k).state ≠ .free) ∧ (s.store.ownedLines .a).length < s.store.quota .a ∧
      s.store.images.config.prefetch = false ∧ (3 : BitVec 168).getLsbD 0 = true ∧ (2 : BitVec 168).getLsbD 0 = false := by
  decide

theorem witness_ArrivalFills_fault :
    let s := arriving 3 false fun s => s.setLine 2 ⟨.fault, some .a, some ⟨7, 0, 0⟩, none, [], false, false, []⟩
    s.store.lineOf ⟨7, 0, 0⟩ = some 2 ∧ (s.store.line 2).state = .fault ∧ (s.store.line 2).owner = some .a ∧
      s.store.images.config.prefetch = false := by decide

theorem witness_ArrivalFills_prefetch :
    let s := arriving 3 true fun s => s.setLine 0 ⟨.clean, some .a, some ⟨7, 0, 0⟩, some record17, [], false, false, []⟩
    (s.store.residentOf ⟨7, 0, 0⟩).isSome = true ∧ s.store.images.config.prefetch = true ∧ (s.store.line 1).state = .free ∧
      (∀ k, k < (1 : Fin 8) → (s.store.line k).state ≠ .free) ∧ (s.store.ownedLines .a).length < s.store.quota .a ∧
      s.store.a.prefetchUp = true ∧ 0 + 1 < image7.cimg ∧ s.store.lineOf ⟨7, 1, 0⟩ = none ∧
      (3 : BitVec 168).getLsbD 1 = true := by decide

theorem witness_Arrival_cardLost :
    let s : State := { State.reset with mech := State.reset.mech.modLines .a fun l => { l with settle := some 0 } }
    s.mech.a.lines.settle.isSome = true ∧ s.store.mounted .a = false ∧ s.store.cardLost = true ∧ s.store.a.demands = [] := by decide

theorem witness_SideChangeReachesSelectedUnits :
    bound.mech.a.lines.selected = true ∧ bound.store.spanBound .a = true ∧ bound.mech.b.lines.selected = false ∧
      (after .sideChange bound).store.decoder.state = .draining := by decide

theorem witness_HalfCellsCarryClockAndData : 0 < 8 ∧ 7 < 8 := by decide

theorem witness_HalfCells_intervals : 0 < (rotParams image7).d := by decide

theorem witness_WgateAssertBeginsSpan : (turning 10).mech.pins.wgate = false ∧ (turning 10).mech.a.lines.selected = true := by
  decide

theorem witness_WgateAssert_unit_b :
    let s : State := { State.reset with mech := State.reset.mech.modLines .b fun l => { l with selected := true } }
    s.mech.pins.wgate = false ∧ s.mech.a.lines.selected = false ∧ s.mech.b.lines.selected = true := by decide

theorem witness_WgateReleaseEndsSpan :
    let s := after .wgateAssert ready
    s.mech.pins.wgate = true ∧ s.store.decoder.state ≠ .capture := by decide

theorem witness_WgateRelease_discarded :
    let s := readyCtx .capture fun c => { c with cls := .discarded }
    let t : State := { s with mech := { s.mech with pins := { s.mech.pins with wgate := true } } }
    t.mech.pins.wgate = true ∧ t.store.decoder.state = .capture ∧ t.store.decoder.ctx.cls = .discarded ∧
      0 < t.store.images.config.linger := by decide

/-- A record of one sector of 128 bytes, at 146. -/
def record1 : TrackRecord :=
  { key := ⟨7, 0, 0⟩, blank := false, enc := .mfm, sync := 12, fill := 0x4E, indexPos := some 80, truncated := false,
    sectors := [{ sector17 0 with n := 0, data := some ⟨56, .data, 0xFB, false, List.replicate 128 0xE5⟩ }] }

/-- A record of that sector and one more, at 600. -/
def record2 : TrackRecord :=
  { record1 with sectors := record1.sectors ++ [{ sector17 0 with pos := 600, n := 0, data := none }] }

/-- The sector of `record1` lies clear of its presented index mark, under both encodings and with no second sector. -/
theorem witness_RecordBytesFollowRegions :
    record1.indexPos = some 80 ∧ 80 + indexLength .mfm 12 ≤ 6250 ∧ 80 + indexLength .mfm 12 ≤ 146 ∧
      80 + indexLength .fm 12 ≤ 146 ∧ record1.sectors.length = 1 ∧
      (record1.sectors.all fun x => !x.overflow && decide (x.pos = 146) && match x.data with
        | some part => decide (idLength .mfm 12 ≤ part.d ∧ idLength .fm 12 ≤ part.d ∧ part.bytes.length = dataLen x.n)
        | none => false) = true ∧
      (record2.sectors[1]?).map Sector.data = some none ∧
      emissionEntry defaultMarks .mfm .ident = defaultMarks[(0 : Fin 8)] := by decide

/-- R42, R48: under FM the identifier byte of the same sector carries the identifier clock pattern, right after the sync run. -/
theorem test_stream_bytes_fm :
    let r := { record1 with enc := .fm }
    recordByte defaultMarks 5208 r 157 = .plain 0 ∧ recordByte defaultMarks 5208 r 158 = .mark 0xFE 0xC7 ∧
      recordByte defaultMarks 5208 r 159 = .plain 2 ∧ recordByte defaultMarks 5208 r 92 = .mark 0xFC 0xD7 := by decide

/-- Line 0 of unit A under the first track of its image. -/
def line7 (st : LineState) (r : TrackRecord) (dirty : List Nat) : Line :=
  ⟨st, some .a, some ⟨7, 0, 0⟩, some r, dirty, false, false, []⟩

/-- A span of a class in CAPTURE over `record2`, with WGATE asserted and unit A turning at 700. -/
def inSpan (cls : SpanClass) (f : Store → Store) : State :=
  let s : State := { turning 700 with mech := { (turning 700).mech with pins := { Pins.released with sel0 := true, wgate := true } } }
  { s with store := f ({ s.store with decoder := ⟨.capture,
      { SpanCtx.reset with cls := cls, a := 10, track := some ⟨7, 0, 0⟩, target := some 0, targetLine := some 0 }⟩ }.setLine 0
        (line7 .clean record2 [])) }

theorem witness_WgateRelease_data :
    let s := inSpan .data id
    s.mech.pins.wgate = true ∧ s.store.decoder.state = .capture ∧ s.store.decoder.ctx.targetLine = some 0 ∧
      s.store.decoder.ctx.target = some 0 ∧ (s.store.line 0).state.resident = true ∧ (s.store.line 0).record = some record2 ∧
      (record2.sectors[0 + 1]?).map Sector.pos = some 600 ∧ 600 < s.mech.a.rot.p := by decide

theorem witness_WgateRelease_stray :
    let s := inSpan .stray id
    s.store.decoder.ctx.track = some ⟨7, 0, 0⟩ ∧ s.store.residentOf ⟨7, 0, 0⟩ = some 0 ∧
      (s.store.line 0).record = some record2 ∧ record2.blank = false ∧
      (inSpan .unclassed fun s => s.setLine 0 Line.free).store.residentOf ⟨7, 0, 0⟩ = none := by decide

/-- A claim that is being parsed. -/
def claim7 : Claim := ⟨.a, ⟨7, 0, 0⟩, 10, none, none, []⟩

theorem witness_WgateRelease_format :
    let s := inSpan .format fun s => { s with staging := .parsing claim7 }
    let f := inSpan .format fun s => { s.setLine 0 (line7 .filling record2 []) with staging := .parsing claim7 }
    let c := inSpan .format fun s => { s.setLine 0 Line.free with staging := .parsing claim7, link := Link.reset }
    s.store.decoder.state = .capture ∧ s.store.staging = .parsing claim7 ∧ s.store.lineOf claim7.key = some 0 ∧
      (s.store.line 0).state.resident = true ∧ (s.store.line 0).owner = some .a ∧ s.store.a.mount.entry = some image7 ∧
      f.store.lineOf claim7.key = some 0 ∧ (f.store.line 0).state = .filling ∧
      c.store.lineOf claim7.key = none ∧ c.store.cardLost = true := by decide

theorem witness_WgateRelease_fault :
    let f := fun e : Entry => inSpan .format fun s => { s.setLine 0 (line7 .fault record2 []) with
      staging := .parsing claim7, a := { s.a with mount := { mounted7 with entry := some e } } }
    (f image7).store.lineOf claim7.key = some 0 ∧ ((f image7).store.line 0).state = .fault ∧
      ((f image7).store.line 0).owner = some .a ∧ (f image7).store.a.mount.entry = some image7 ∧ image7.scratchTrack 0 = false ∧
      (f { image7 with policy := .scratch }).store.lineOf claim7.key = some 0 ∧
      ({ image7 with policy := .scratch } : Entry).scratchTrack 0 = true := by decide

/-- A FORMAT span whose claim's key no line holds, on an available card, with a present map. -/
def inFormat (map : BitVec 168) : State :=
  inSpan .format fun s => { s.setLine 0 Line.free with
    staging := .parsing claim7, a := { s.a with mount := { mounted7 with map := some map } } }

theorem witness_WgateRelease_noLine :
    (inFormat 1).store.lineOf claim7.key = none ∧ (inFormat 1).store.link.available = true ∧ (inFormat 1).store.a.demands = [] ∧
      ((inFormat 1).store.line 0).state = .free ∧ (∀ k, k < (0 : Fin 8) → ((inFormat 1).store.line k).state ≠ .free) ∧
      ((inFormat 1).store.ownedLines .a).length < (inFormat 1).store.quota .a ∧
      (inFormat 1).store.a.mount.entry = some image7 ∧ (inFormat 1).store.a.mount.map = some 1 ∧
      (1 : BitVec 168).getLsbD (0 * image7.heads + 0) = true ∧ (inFormat 2).store.a.mount.map = some 2 ∧
      (2 : BitVec 168).getLsbD (0 * image7.heads + 0) = false := by decide

theorem witness_WgateRelease_cacheOk : (inFormat 1).store.CacheOk := by
  have h : ∀ l : Fin 8, ((inFormat 1).store.line l).state = .free := by decide
  refine ⟨fun l m k hl _ _ _ => absurd (h l) hl, by decide, by decide, by decide, ?_⟩
  intro u
  cases u <;> decide

theorem witness_FluxJoinsSearchWindow :
    let s := after (.decodedByte [⟨20, 250⟩]) (after .wgateAssert (turning 10))
    s.store.decoder.state = .capture ∧ s.store.spanEntry = some image7 ∧ image7.enc = .mfm ∧
      s.store.decoder.ctx.cls = .unclassed ∧ s.store.decoder.ctx.field = .none ∧ s.store.decoder.ctx.aligned = none ∧
      s.store.decoder.ctx.opened = some 0 ∧ 150 ≤ 150 ∧ classifyInterval .mfm image7.divider (0 + 192) = some 4 ∧
      s.store.decoder.ctx.window.length + 4 < 16 := by decide

theorem witness_Flux_no_pulse : 149 < 150 ∧ (after .wgateAssert (turning 10)).store.decoder.ctx.opened = none := by decide

theorem witness_Flux_outside_capture : ready.store.decoder.state ≠ .capture := by decide

/-- A store whose span searches, with the fifteen half-cells before the last one of `cells`, received at 20. -/
def searching (cells : Word16) (f : SpanCtx → SpanCtx) : Store :=
  (readyCtx .capture fun c => f { c with
    track := some ⟨7, 0, 0⟩, window := (List.range 15).map fun k => (cells.getLsbD (k + 1), 20) }).store

theorem witness_Flux_prefix :
    let s := searching 0x4489 id
    let window := (((0x4489 : Word16).getLsbD 0, 20) :: s.decoder.ctx.window).take 16
    s.decoder.state = .capture ∧ s.decoder.ctx.cls = .unclassed ∧ s.decoder.ctx.field = .none ∧ window.length = 16 ∧
      (∀ k, k < 16 → (0x4489 : Word16).getLsbD k = ((window[k]?).map Prod.fst).getD false) ∧
      window.getLast? = some ((0x4489 : Word16).getLsbD 15, 20) ∧
      (∃ i : Fin 8, (s.marks[i]).enc = .mfm ∧ 1 ≤ (s.marks[i]).count ∧
        halfCells (s.marks[i]).preClock (s.marks[i]).preData = 0x4489) := by decide

/-- R59, R61: a whole byte after a run of three prefix bytes, the identifier FE, is recognized by entry 0; the byte 00 by none. -/
theorem witness_Flux_candidate :
    let after3 := fun c : SpanCtx => { c with aligned := some 15, run := some 0x4489, runLen := 3 }
    let named := fun (s : Store) (x : MarkEntry) (b : Byte) =>
      decide (x.enc = .mfm ∧ 1 ≤ x.count ∧ x.count ≤ s.decoder.ctx.runLen ∧ halfCells x.preClock x.preData = 0x4489 ∧
        (b ^^^ x.ident) &&& ~~~x.mask = 0)
    let s := searching (halfCells 0x00 0xFE) after3
    let n := searching (halfCells 0xFF 0x00) after3
    s.decoder.ctx.aligned = some 15 ∧ s.decoder.ctx.run = some 0x4489 ∧ dataOf (halfCells 0x00 0xFE) = 0xFE ∧
      named s (s.marks[(0 : Fin 8)]) 0xFE = true ∧ (∀ i : Fin 8, named n (n.marks[i]) 0x00 = false) ∧
      (∀ i : Fin 8, halfCells (s.marks[i]).preClock (s.marks[i]).preData ≠ halfCells 0x00 0xFE ∧
        halfCells (s.marks[i]).preClock (s.marks[i]).preData ≠ halfCells 0xFF 0x00 ∨ (s.marks[i]).count = 0) ∧
      (s.halfCell image7 50 false).decoder.ctx.cls = .format ∧ (n.halfCell image7 50 false).decoder.ctx.cls = .unclassed := by decide

/-- R61, R63: under FM the identifier FE with clock C7 is recognized by entry 4, and with clock FF by none. -/
theorem witness_Flux_fm :
    let fm : Entry := { image7 with format := 0 }
    let s := searching (halfCells 0xC7 0xFE) id
    fm.enc = .fm ∧ (s.marks[(4 : Fin 8)]).enc = .fm ∧ (s.marks[(4 : Fin 8)]).idClock ≠ 0xFF ∧
      clockOf (halfCells 0xC7 0xFE) = (s.marks[(4 : Fin 8)]).idClock ∧ dataOf (halfCells 0xC7 0xFE) = (s.marks[(4 : Fin 8)]).ident ∧
      (∀ j, j < (4 : Fin 8) → (s.marks[j]).enc ≠ .fm) ∧ (∀ i : Fin 8, clockOf (halfCells 0xFF 0xFE) ≠ (s.marks[i]).idClock ∨ (s.marks[i]).enc = .mfm) ∧
      (s.halfCell fm 50 false).decoder.ctx.cls = .format := by decide

theorem witness_IndexMarkSetsClaimPosition :
    let s := { (readyCtx .capture fun c => { c with cls := .format }).store with staging := .parsing claim7 }
    s.staging = .parsing claim7 ∧ s.decoder.ctx.cls = .format ∧ (s.marks[(3 : Fin 8)]).kind = .index := by decide

theorem witness_IdentFieldGivesNewSector :
    let s := { (readyCtx .capture fun c => { c with cls := .format, field := .ident true, len := 4 }).store with
      staging := .parsing claim7 }
    s.staging = .parsing claim7 ∧ s.decoder.ctx.field = .ident true ∧ s.decoder.ctx.len = 4 ∧ s.decoder.ctx.count = 0 ∧
      s.decoder.ctx.taken = [] ∧ s.decoder.ctx.crcGot = 0 := by decide

theorem witness_DataMarkEditsTarget :
    let s := (inSpan .unclassed id).store
    s.decoder.ctx.cls = .unclassed ∧ (s.marks[(1 : Fin 8)]).kind = .data ∧ (s.marks[(2 : Fin 8)]).kind = .deleted ∧
      s.decoder.ctx.track = some ⟨7, 0, 0⟩ ∧ s.residentOf ⟨7, 0, 0⟩ = some 0 ∧ (s.line 0).record = some record2 ∧
      record2.blank = false ∧ (record2.sectors[0]?).map Sector.pos = some 146 ∧ 146 + idLength .mfm 12 ≤ 202 ∧
      (∀ y ∈ record2.sectors.drop 1, ¬y.pos + idLength .mfm 12 ≤ 202) ∧ 202 ≤ 146 + 56 + 32 ∧ 146 + 56 ≤ 170 + 32 ∧
      ∀ x ∈ record2.sectors, ¬x.pos + idLength record2.enc record2.sync ≤ 100 := by decide

/-- R65, R66: the STRAY forms: no line under the head, a blank record, a sector without data, and 33 byte times on either side. -/
theorem witness_DataMark_stray :
    let free := (inSpan .unclassed fun s => s.setLine 0 Line.free).store
    let blank := (inSpan .unclassed fun s => s.setLine 0 (line7 .clean { record2 with blank := true } [])).store
    free.decoder.ctx.track = some ⟨7, 0, 0⟩ ∧ free.residentOf ⟨7, 0, 0⟩ = none ∧
      blank.residentOf ⟨7, 0, 0⟩ = some 0 ∧ (blank.line 0).record = some { record2 with blank := true } ∧
      (record2.sectors[1]?).map Sector.data = some none ∧ 600 + idLength .mfm 12 ≤ 640 ∧
      146 + 56 + 32 < 235 ∧ 169 + 32 < 146 + 56 ∧ 146 + idLength .mfm 12 ≤ 169 ∧
      ((inSpan .unclassed id).store.recognized image7 1 235 0xFB).decoder.ctx.cls = .stray ∧
      ((inSpan .unclassed id).store.recognized image7 1 234 0xFB).decoder.ctx.cls = .data ∧
      ((inSpan .unclassed id).store.recognized image7 1 169 0xFB).decoder.ctx.cls = .stray ∧
      ((inSpan .unclassed id).store.recognized image7 1 640 0xFB).decoder.ctx.cls = .stray := by decide

theorem witness_DataMark_field :
    let s := (inSpan .data fun s => { s with decoder := { s.decoder with ctx := { s.decoder.ctx with
      field := .target, len := 128, count := 129 } } }).store
    s.decoder.ctx.field = .target ∧ s.decoder.ctx.targetLine = some 0 ∧ s.decoder.ctx.target = some 0 ∧
      (s.line 0).state.resident = true ∧ (s.line 0).record = some record2 ∧ s.decoder.ctx.count = s.decoder.ctx.len + 1 ∧
      127 < s.decoder.ctx.len := by decide

theorem witness_EditMarksLineDirty :
    let s := (inSpan .data id).store
    let e : Entry := { image7 with policy := .scratch }
    [0] ≠ ([] : List Nat) ∧ (s.line 0).owner = some .a ∧ s.a.mount.entry = some image7 ∧ (s.line 0).key = some ⟨7, 0, 0⟩ ∧
      (s.line 0).state = .clean ∧ image7.scratchTrack 0 = false ∧ e.scratchTrack 0 = true ∧ 0 ∉ s.wb.queue ∧
      s.a.mount.state ≠ .unmounting ∧ s.pinned 0 = false ∧ (line7 .dirty record2 []).state = .dirty ∧
      (line7 .held record2 []).state.resident = false := by decide

theorem witness_FormatMergeKeepsAndAdds :
    300 < 700 ∧ (record2.sectors.filter fun x => decide (x.overflow = false ∧
      (x.pos + footprint record2.enc record2.sync x ≤ 300 ∨ 700 ≤ x.pos))).length ≤ 64 ∧ listLength record2.sectors ≤ 16384 := by
  decide

/-- A waiting demand for cylinder 0, side 0. -/
def demand0 : Demand := ⟨⟨7, 0, 0⟩, .demand, 0, none, .waiting⟩

theorem witness_DemandTakesFreeLine :
    let s := readyStore fun s => { s with a := { s.a with demands := [demand0] } }
    s.store.a.demands = [demand0] ∧ demand0.stage = .waiting ∧ demand0.cls = .demand ∧ s.store.lineOf demand0.key = none ∧
      s.store.line 0 = Line.free ∧
      (∀ k, k < (0 : Fin 8) → (s.store.line k).state ≠ .free) ∧ (s.store.ownedLines .a).length < s.store.quota .a ∧
      s.store.decoder.ctx.targetLine ≠ some 0 ∧ s.store.a.mount.entry = some image7 ∧ s.store.a.mount.map = some 1 ∧
      (1 : BitVec 168).getLsbD (demand0.key.cyl * image7.heads + demand0.key.head) = true ∧ s.store.link.state = .idle := by
  decide

theorem witness_DemandTakes_twice :
    let s := readyStore fun s => { s.setLine 5 (line7 .clean record1 []) with a := { s.a with demands := [demand0] } }
    s.store.a.demands = [demand0] ∧ (s.store.lineOf demand0.key).isSome = true := by decide

/-- Unit A owns its quota of lines, CLEAN and unpinned, in the order 0 to 3; the scratch-modified flags as given; one demand waits. -/
def atQuota (scratch : Fin 8 → Bool) (st : LineState) : State :=
  readyStore fun s =>
    let full := [0, 1, 2, 3].foldl (fun (s : Store) (l : Fin 8) =>
      s.setLine l ⟨st, some .a, some ⟨7, 10 + l.val, 0⟩, some record1, [], scratch l, false, []⟩) s
    { full with a := { s.a with demands := [demand0], recency := [0, 1, 2, 3] } }

/-- R87: the least recently presented line whose flag is clear is reused, or the least recently presented of all; with every line FILLING
the demand stays WAITING. -/
theorem witness_DemandTakes_reuse :
    let some0 := atQuota (fun l => decide (l = 0)) .clean
    let all := atQuota (fun _ => true) .clean
    let none_ := atQuota (fun _ => false) .filling
    some0.store.a.demands = [demand0] ∧ some0.store.a.recency = [0] ++ 1 :: [2, 3] ∧
      ¬(some0.store.ownedLines .a).length < some0.store.quota .a ∧ (some0.store.line 0).scratch = true ∧
      (some0.store.line 1).state = .clean ∧ (some0.store.line 1).scratch = false ∧ some0.store.pinned 1 = false ∧
      some0.store.lineOf demand0.key = none ∧ (all.store.line 0).scratch = true ∧ (all.store.line 3).scratch = true ∧
      ((after (.demandTakesLine .a) some0).store.line 1).key = some ⟨7, 0, 0⟩ ∧
      ((after (.demandTakesLine .a) all).store.line 0).key = some ⟨7, 0, 0⟩ ∧
      (none_.store.line 0).state = .filling ∧ (after (.demandTakesLine .a) none_).store.a.demands = [demand0] := by decide

/-- Line 0 is being filled for cylinder 0, side 0, which is pinned. -/
def fillingStore (job : ReadJob) (arrived data : List Byte) : State :=
  readyStore fun s =>
    { s.setLine 0 ⟨.filling, some .a, some ⟨7, 0, 0⟩, none, [], false, false, arrived⟩ with
      a := { s.a with cylKeys := [⟨7, 0, 0⟩], demands := [{ demand0 with line := some 0, stage := .inFlight }] },
      images := { s.images with config := { s.images.config with prefetch := false } },
      link := { s.link with ended := some (job, data) } }

/-- The first bytes of a slot whose record has no sector: slot 7, cylinder 0, side 0, MFM, sync 12, fill 4E. -/
def emptyHeader : List Byte := [7, 0, 0, 0, 1, 12, 0x4E, 0, 0, 0]

theorem witness_HeaderEndAsksForBody :
    let s := fillingStore (.fillHeader 0) [] emptyHeader
    s.store.link.ended = some (.fillHeader 0, emptyHeader) ∧ (s.store.line 0).state = .filling ∧
      (s.store.line 0).owner = some .a ∧ (s.store.line 0).key = some ⟨7, 0, 0⟩ ∧ (s.store.line 0).abandoned = false ∧
      s.store.mounted .a = true ∧ s.store.a.mount.entry = some image7 ∧
      s.store.a.demands = [{ demand0 with line := some 0, stage := .inFlight }] ∧ s.store.pinned 0 = true ∧
      storedHeaderOk image7 ⟨7, 0, 0⟩ emptyHeader = true ∧ storedFlag emptyHeader 0 = false ∧ s.store.link.state = .idle := by
  decide

theorem witness_HeaderEnd_ends :
    let bad : List Byte := [7, 1, 0, 0, 1, 12, 0x4E, 0, 0, 0]
    let long : List Byte := [7, 0, 0, 0, 1, 12, 0x4E, 0, 0xFF, 0xFF]
    let blank : List Byte := [7, 0, 0, 3, 1, 12, 0x4E, 0, 0, 0]
    (fillingStore (.fillHeader 0) [] bad).store.staging = .empty ∧
      (fillingStore (.fillHeader 0) [] bad).store.images.config.prefetch = false ∧ (byteAt bad 1).toNat ≠ 0 ∧
      512 * 2 ^ image7.k < 64 + 16 * leAt long 8 2 ∧ storedHeaderOk image7 ⟨7, 0, 0⟩ blank = true ∧
      storedFlag blank 0 = true := by decide

theorem witness_BodyEndLoadsRecord :
    let s := fillingStore (.fillBody 0) emptyHeader []
    s.store.link.ended = some (.fillBody 0, []) ∧ (s.store.line 0).state = .filling ∧ (s.store.line 0).owner = some .a ∧
      (s.store.line 0).key = some ⟨7, 0, 0⟩ ∧ (s.store.line 0).abandoned = false ∧ s.store.mounted .a = true ∧
      s.store.a.mount.entry = some image7 ∧
      loadRecord image7 ⟨7, 0, 0⟩ ((s.store.line 0).arrived ++ []) = some ⟨⟨7, 0, 0⟩, false, .mfm, 12, 0x4E, none, false, []⟩ ∧
      s.store.staging = .empty ∧ s.store.images.config.prefetch = false := by
  decide

theorem witness_BodyEnd_fails :
    let t : ReadTxn := ⟨.fillBody 0, .demand, 102, 31, 102, 3, none, []⟩
    let e : Entry := { image7 with k := 0 }
    let s := fillingStore (.fillBody 0) [7, 0, 0, 0, 1, 12, 0x4E, 0, 30, 0] []
    let small : State := { s with store := { s.store with a := { s.store.a with mount := { mounted7 with entry := some e } } } }
    small.store.a.mount.entry = some e ∧ 512 * 2 ^ e.k < storedLength ((small.store.line 0).arrived ++ []) ∧
      t.job = .fillBody 0 ∧ 3 ≤ t.attempt ∧
      ({ s with store := { s.store with link := { s.store.link with current := some (.read t) } } } : State).store.link.current =
        some (.read t) := by decide

theorem witness_LingerExpiryQueuesDirtyLines :
    let s := readyStore fun s =>
      { s.setLine 3 ⟨.dirty, some .a, some ⟨7, 0, 0⟩, none, [0], false, false, []⟩ with a := { s.a with linger := some 0 } }
    s.store.a.linger.isSome = true ∧ s.store.link.state ≠ .parked ∧ s.store.linesIn .a .dirty = [3] := by
  decide

theorem witness_GrantTakesHighestClass :
    let s := readyLink fun k => { k with demandQ := [⟨0, true, 0, 101, 31⟩] }
    s.store.link.state = .idle ∧ s.store.link.ended = none ∧ s.store.link.demandQ = [⟨0, true, 0, 101, 31⟩] ∧
      101 + 31 ≤ s.store.capacityOf := by
  decide

theorem witness_Grant_other_clauses :
    let s := readyLink fun k => { k with catQ := [.header] }
    let h := readyLink fun k => { k with demandQ := [⟨0, false, 0, 101, 1⟩] }
    let p := readyLink fun k => { k with prefetchQ := [⟨0, true, 0, 102, 31⟩] }
    s.store.link.demandQ = [] ∧ s.store.link.catQ = [.header] ∧ 0 < s.store.capacityOf ∧
      h.store.link.demandQ = [⟨0, false, 0, 101, 1⟩] ∧ 101 + 1 ≤ h.store.capacityOf ∧
      p.store.link.demandQ = [] ∧ p.store.link.catQ = [] ∧ p.store.wb.queue = [] ∧ p.store.wb.current = none ∧
      p.store.link.prefetchQ = [⟨0, true, 0, 102, 31⟩] ∧ 102 + 31 ≤ p.store.capacityOf ∧
      ready.store.link.demandQ = [] ∧ ready.store.link.catQ = [] ∧ ready.store.link.prefetchQ = [] ∧
      ready.store.wb.queue = [] ∧ ready.store.wb.current = none := by
  decide

/-- R133, R180: a resume write, a directory read and an image header read that come next; slot 7 is unit A's resume slot. -/
theorem witness_Grant_catalogue :
    let s := readyStore fun s => { s with a := { s.a with resume := some 7 }, link := { s.link with catQ := [.resume] } }
    let d := readyLink fun k => { k with catQ := [.directory 1 1] }
    let i := readyLink fun k => { k with catQ := [.imageHeader .a 100] }
    s.store.link.catQ = [.resume] ∧ s.store.images.catalogue = some (List.replicate 512 0) ∧
      s.store.a.resume = some 7 ∧ s.store.b.resume = none ∧ 0 < s.store.capacityOf ∧
      d.store.link.catQ = [.directory 1 1] ∧ 1 + 1 ≤ d.store.capacityOf ∧
      i.store.link.catQ = [.imageHeader .a 100] ∧ 100 < i.store.capacityOf := by decide

/-- Line 0 waits in the write-back queue with a record and a dirty set, under an entry copy. -/
def queued0 (e : Entry) (r : TrackRecord) (dirty : List Nat) : State :=
  readyStore fun s => { s.setLine 0 (line7 .dirty r dirty) with
    a := { s.a with mount := { mounted7 with entry := some e } }, wb := { s.wb with queue := [0] } }

theorem witness_Grant_writeBack :
    let s := queued0 image7 record17 [3, 4]
    s.store.link.demandQ = [] ∧ s.store.link.catQ = [] ∧ s.store.link.current = none ∧ s.store.wb.current = none ∧
      s.store.wb.queue = [0] ∧ (s.store.line 0).owner = some .a ∧ s.store.a.mount.entry = some image7 ∧
      (s.store.line 0).record = some record17 ∧ (s.store.line 0).key = some ⟨7, 0, 0⟩ ∧
      ¬image7.slotBytes < recordLength record17 ∧ (s.store.line 0).dirty = [3, 4] ∧ 3 < blockCount (recordLength record17) ∧
      3 < 2 ^ image7.k ∧ image7.slotStart ⟨7, 0, 0⟩ + 3 < s.store.capacityOf := by decide

theorem witness_Grant_truncated :
    let e : Entry := { image7 with k := 2 }
    let s := queued0 e record17 [3]
    s.store.a.mount.entry = some e ∧ e.slotBytes < recordLength record17 ∧
      0 :: [1, 2, 3] = List.range (blockCount (listLength (fitSectors e.slotBytes record17.sectors))) ∧
      e.slotStart ⟨7, 0, 0⟩ + 0 < s.store.capacityOf := by decide

/-- A pass over line 0 with the record of section 1.7, its cursor, its dirty set, and the link's transaction. -/
def inPass (cursor : Nat) (dirty : List Nat) (txn : Option Transaction) (f : Store → Store) : State :=
  readyStore fun s => f { s.setLine 0 (line7 .writing record17 dirty) with
    wb := { s.wb with current := some 0, cursor := some cursor },
    link := { s.link with state := if txn.isSome then .busy else .idle, current := txn } }

theorem witness_Grant_resumes :
    let s := inPass 2 [3, 4] none id
    s.store.link.state = .idle ∧ s.store.link.ended = none ∧ s.store.link.demandQ = [] ∧ s.store.link.catQ = [] ∧
      s.store.link.current = none ∧ s.store.PassAt 0 .a image7 record17 ⟨7, 0, 0⟩ ∧ s.store.wb.owed = false ∧
      s.store.wb.cursor = some 2 ∧ (s.store.line 0).dirty = [3, 4] ∧ 2 < 3 ∧
      3 < blockCount (passLength s.store.wb.truncForm image7.slotBytes record17) ∧ 3 < 2 ^ image7.k ∧
      image7.slotStart ⟨7, 0, 0⟩ + 3 < s.store.capacityOf :=
  ⟨by decide, by decide, by decide, by decide, by decide, ⟨by decide, by decide, by decide, by decide, by decide⟩, by decide,
    by decide, by decide, by decide, by decide, by decide, by decide⟩

theorem witness_reads :
    let t : ReadTxn := ⟨.catHeader, .catalogue, 0, 1, 0, 2, none, []⟩
    let s := readyLink fun k => { k with state := .busy, current := some (.read t) }
    s.store.link.current = some (.read t) ∧ t.attempt < 3 ∧ (List.replicate 512 (0 : Byte)).length = 512 := by
  decide

theorem crcOf_zeros (n : Nat) : crcOf 0 (List.replicate n 0) = 0 := by
  induction n with
  | zero => rfl
  | succ n ih =>
    have h : crcByte 0 0 = 0 := by decide
    show (List.replicate n 0).foldl crcByte (crcByte 0 0) = 0
    rw [h]
    exact ih

theorem witness_link_check : crcOf 0 (List.replicate 512 0) = 0 ∧ crcOf 0 (List.replicate 512 0) ≠ 1 := by
  rw [crcOf_zeros]
  decide

/-- A resume write in progress. -/
def writing (phase : WritePhase) (attempt : Nat) : State :=
  readyLink fun k => { k with
    state := .busy, current := some (.write ⟨.resume, .catalogue, 0, 0, attempt, phase, []⟩) }

theorem witness_writes :
    (writing .transfer 2).store.link.current = some (.write ⟨.resume, .catalogue, 0, 0, 2, .transfer, []⟩) ∧
      (writing .retryStop 2).store.link.current = some (.write ⟨.resume, .catalogue, 0, 0, 2, .retryStop, []⟩) ∧
      (writing .closeStop 1).store.link.current = some (.write ⟨.resume, .catalogue, 0, 0, 1, .closeStop, []⟩) ∧
      (writing .closeStop 1).store.images.resumeAgain = false ∧ (writing .transfer 3).store.link.catQ = [] := by
  decide

/-- The transaction of a record block. -/
def recordTxn (phase : WritePhase) : WriteTxn := ⟨.record, .writeBack, 103, 103, 1, phase, []⟩

theorem witness_StoppedRun_pass :
    let s := inPass 2 [3, 4] (some (.write (recordTxn .closeStop))) id
    let d := inPass 2 [3, 4] (some (.write (recordTxn .closeStop))) fun s => { s with link := { s.link with suspendReq := true } }
    let m := inPass 2 [] (some (.write (recordTxn .closeStop))) fun s => { s with wb := { s.wb with owed := true } }
    (recordTxn .closeStop).job ≠ .resume ∧ s.store.PassAt 0 .a image7 record17 ⟨7, 0, 0⟩ ∧ s.store.link.suspendReq = false ∧
      s.store.wb.owed = false ∧ s.store.wb.cursor = some 2 ∧ (s.store.line 0).dirty = [3, 4] ∧
      d.store.wb.current.isSome = true ∧ d.store.link.suspendReq = true ∧
      m.store.wb.owed = true ∧ m.store.a.mount.map = some 1 ∧ image7.base < m.store.capacityOf :=
  ⟨by decide, ⟨by decide, by decide, by decide, by decide, by decide⟩, by decide, by decide, by decide, by decide, by decide,
    by decide, by decide, by decide, by decide⟩

theorem witness_StoppedRun_ended :
    let s := readyLink fun k => { k with state := .busy, current := some (.write (recordTxn .closeStop)) }
    s.store.link.current = some (.write (recordTxn .closeStop)) ∧ s.store.wb.current = none := by decide

theorem witness_AcceptedBlockGoesOn :
    let s := inPass 2 [3, 4] (some (.write (recordTxn .transfer))) id
    (recordTxn .transfer).phase = .transfer ∧ s.store.PassAt 0 .a image7 record17 ⟨7, 0, 0⟩ ∧ s.store.a.mount.map = some 1 ∧
      s.store.a.mount.state = .mounted ∧ s.store.wb.cursor = some 2 ∧ (s.store.line 0).dirty = [3, 4] ∧ 2 < 3 ∧
      3 < blockCount (passLength s.store.wb.truncForm image7.slotBytes record17) ∧ 3 = 2 + 1 ∧ 4 ≠ 2 + 1 ∧
      s.store.link.suspendReq = false ∧ (1 : BitVec 168).getLsbD (0 * image7.heads + 0) = true ∧
      (2 : BitVec 168).getLsbD (0 * image7.heads + 0) = false ∧ (0 : Fin 8) ∉ s.store.wb.queue :=
  ⟨by decide, ⟨by decide, by decide, by decide, by decide, by decide⟩, by decide, by decide, by decide, by decide, by decide,
    by decide, by decide, by decide, by decide, by decide, by decide, by decide⟩

theorem witness_Accepted_last :
    ((inPass 4 [] (some (.write (recordTxn .transfer))) id).store.line 0).dirty = [] ∧
      (∀ x ∈ ((inPass 4 [2] (some (.write (recordTxn .transfer))) id).store.line 0).dirty, x ≤ 4) ∧
      (⟨.presentMap, .writeBack, 100, 100, 1, .transfer, []⟩ : WriteTxn).job = .presentMap := by decide

/-- R97, R106, R107: an owner that is UNMOUNTING, and a HELD one with and without another line. -/
theorem witness_Accepted_owner :
    let pass := fun (st : MountState) (dirty : List Nat) (f : Store → Store) =>
      inPass 4 dirty (some (.write (recordTxn .transfer))) fun s =>
        f { s with a := { s.a with mount := { mounted7 with state := st, pending := some (.slot 2) } } }
    let other := pass .held [] fun s => s.setLine 5 ⟨.held, some .a, some ⟨7, 9, 0⟩, some record1, [0], false, false, []⟩
    let alone := pass .held [] id
    (pass .unmounting [2] id).store.a.mount.state = .unmounting ∧ ((pass .unmounting [2] id).store.line 0).dirty = [2] ∧
      alone.store.a.mount.state = .held ∧ (alone.store.line 0).dirty = [] ∧
      (∀ m, m ≠ 0 → (alone.store.line m).owner ≠ some .a) ∧ (other.store.line 5).owner = some .a ∧
      (after (.writeBlockOutcome .accepted) alone).store.line 0 = Line.free ∧
      (after (.writeBlockOutcome .accepted) alone).store.a.mount.state = .changingInterval := by decide

theorem witness_ContactAndLinkTimersMoveLink :
    State.reset.store.link.state = .absent ∧ State.reset.mech.pins.cd = false ∧
      (after .cardDetectAssert State.reset).store.link.debounce.isSome = true := by decide

/-- A card whose step 4 is in progress. -/
def initializing4 : State :=
  readyLink fun k => { k with state := .initializing, initStep := 4, found := some (⟨5, 6⟩, 4000) }

theorem witness_InitializationBringsCardUp :
    initializing4.store.link.state = .initializing ∧ initializing4.store.link.initStep = 4 ∧
      initializing4.store.link.found = some (⟨5, 6⟩, 4000) ∧ InitResponse.response ≠ .errorResponse ∧
      ∀ l, (initializing4.store.line l).state ≠ .held := by decide

/-- R100, R107: with a HELD line, and the identity found remembered or not. -/
theorem witness_Initialization_held :
    let back := fun id : CardId =>
      let s := initializing4
      ({ s with store := { s.store.setLine 6 (line7 .held record1 [0]) with
        a := { s.store.a with mount := { mounted7 with state := .held } },
        link := { s.store.link with remembered := some id } } } : State)
    (((back ⟨5, 6⟩).store.line 6).state = .held ∧ (back ⟨5, 6⟩).store.link.remembered = some ⟨5, 6⟩) ∧
      (back ⟨5, 7⟩).store.link.remembered ≠ some ⟨5, 6⟩ ∧ (back ⟨5, 7⟩).store.a.mount.state = .held ∧
      (after (.initStepResponse .response false) (back ⟨5, 6⟩)).store.wb.queue = [6] ∧
      ((after (.initStepResponse .response true) (back ⟨5, 6⟩)).store.line 6).state = .held ∧
      (after (.initStepResponse .response true) (back ⟨5, 6⟩)).store.panel.code = some .e9 ∧
      (after (.initStepResponse .response false) (back ⟨5, 7⟩)).store.line 6 = Line.free ∧
      (after (.initStepResponse .response false) (back ⟨5, 7⟩)).store.panel.code = some .e8 := by decide

theorem witness_CardRemovalHoldsModifiedLines :
    let c := readyMount fun _ => { Mount.reset with state := .changingInterval, target := some (.slot 7) }
    let h := readyStore fun s => { s.setLine 0 (line7 .held record1 [0]) with a := { s.a with mount := { mounted7 with state := .held } } }
    ready.store.link.state ≠ .absent ∧ ready.store.link.available = true ∧ ready.store.mounted .a = true ∧
      c.store.a.mount.state = .changingInterval ∧ ready.store.b.mount.state = .empty ∧ h.store.a.mount.state = .held ∧
      ((after .cardRemoval (queued0 image7 record17 [3])).store.line 0).state = .held ∧
      ((after .cardRemoval h).store.line 0).owner = some .a := by decide

theorem witness_ContactAndLink_timers :
    initializing4.store.link.state = .initializing ∧
      (after .fluxViolation ready).store.link.state = .idle ∧ (after .fluxViolation ready).store.link.park.isSome = true := by
  decide

theorem witness_ParkTimerRunsWhileTestHolds : exec .fluxViolation ready = .next ready.settlePark := rfl

/-- A catalogue header that names eight entries from block 1, with a configuration record of zeros. -/
def header8 : List Byte := [0x47, 0x4E, 0x43, 0x41, 0x54, 0x4C, 0x47, 0x31, 1, 8, 0, 0, 1, 0, 0, 0]

/-- R120: with eight entries, and with none; a directory that ends with the card, and one that ends a block later; a wrong signature. -/
theorem witness_CatalogueHeaderIsChecked :
    let s := readyLink fun k => { k with ended := some (.catHeader, header8) }
    let none_ : List Byte := [0x47, 0x4E, 0x43, 0x41, 0x54, 0x4C, 0x47, 0x31, 1, 0]
    let last : List Byte := [0x47, 0x4E, 0x43, 0x41, 0x54, 0x4C, 0x47, 0x31, 1, 8, 0, 0, 0x1F, 0x4E, 0, 0]
    let beyond : List Byte := [0x47, 0x4E, 0x43, 0x41, 0x54, 0x4C, 0x47, 0x31, 1, 8, 0, 0, 0x20, 0x4E, 0, 0]
    s.store.link.ended = some (.catHeader, header8) ∧ s.store.link.state = .idle ∧ s.store.capacityOf = 20000 ∧
      header8.take 8 = [0x47, 0x4E, 0x43, 0x41, 0x54, 0x4C, 0x47, 0x31] ∧ byteAt header8 8 = 1 ∧
      leAt last 12 4 + 1 = 20000 ∧ catalogueOk 20000 header8 = true ∧ catalogueOk 20000 none_ = true ∧
      catalogueCount none_ = 0 ∧ catalogueOk 20000 last = true ∧ catalogueOk 20000 beyond = false ∧
      catalogueOk 20000 emptyHeader = false := by decide

theorem witness_DirectoryEndInstallsClampedConfiguration :
    let s := readyLink fun k => { k with ended := some (.directory, []) }
    s.store.link.ended = some (.directory, []) ∧ s.store.images.catalogue = some (List.replicate 512 0) ∧
      (clampConfig (List.replicate 512 0)).enableB = false := by decide

/-- A directory of an entry for slot 7, one more for it, and one for slot 100, which no table holds. -/
def directory3 : List Byte :=
  let entry := fun n : Byte =>
    ([n, 3, 2, 80, 100, 0, 0, 0, 0x2C, 1, 5, 12, 0x4E, 22, 0, 0, 0] : List Byte) ++ List.replicate 47 0
  entry 7 ++ entry 7 ++ entry 100

/-- R121, R122: the first entry of a slot counts; an entry is valid where its image ends with the card; 0xFF is kept as no override. -/
theorem witness_Directory_table :
    buildTable 5221 3 directory3 = [image7] ∧ (parseEntry 5220 (directory3.take 64)).valid = false ∧
      lookupEntry (buildTable 5221 3 directory3) 100 = none ∧
      rebuildMarks [⟨1, 0, 4, 0xA1, 0x0A, 0xFC, 0xFF, 0⟩] = defaultMarks.set 0 ⟨.mfm, .index, 3, 0xA1, 0x0A, 0xFC, 0xFF, 0⟩ ∧
      rebuildMarks [⟨2, 0, 4, 0xA1, 0x0A, 0xFC, 0xFF, 0⟩] = defaultMarks := by decide

/-- R120, R136, R137: at the installation an EMPTY unit is sent its resume slot, and a mounted one is left alone. -/
theorem witness_Directory_offers :
    let copy : List Byte := List.replicate 16 0 ++ 7 :: List.replicate 495 0
    let s := fun m : Mount => readyStore fun s =>
      { s with a := { s.a with mount := m }, images := { s.images with catalogue := some copy },
               link := { s.link with ended := some (.directory, []) } }
    (s Mount.reset).store.link.ended = some (.directory, []) ∧ (s Mount.reset).store.images.catalogue = some copy ∧
      (s Mount.reset).store.a.mount.state = .empty ∧ (s Mount.reset).store.link.available = true ∧
      (after .directoryReadEnd (s Mount.reset)).store.a.mount.target = some (.slot 7) ∧
      (after .directoryReadEnd (s { Mount.reset with pending := some (.slot 9) })).store.a.mount.target = some (.slot 9) ∧
      (after .directoryReadEnd (s mounted7)).store.a.mount = mounted7 := by decide

theorem witness_SafePointUnmounts :
    let s := readyMount fun m => { m with state := .unmounting, pending := some (.slot 2) }
    s.store.a.mount.state = .unmounting ∧ s.store.spanBound .a = false ∧ s.store.claimKey .a = [] ∧
      (∀ l, (s.store.line l).owner = some .a → (s.store.line l).state ≠ .dirty ∧ (s.store.line l).state ≠ .writing) := by
  decide

theorem witness_ChangeIntervalExpiryLooksUp :
    let s := readyMount fun _ => { Mount.reset with state := .changingInterval, target := some (.slot 7) }
    s.store.a.mount.state = .changingInterval ∧ s.store.link.state = .idle ∧ s.store.a.mount.target = some (.slot 7) ∧
      s.store.images.reading = false ∧ lookupEntry s.store.images.table 7 = some image7 ∧ s.store.claimsSlot .b 7 = false ∧
      image7.valid = true ∧ s.store.images.config.enabled .a = true := by decide

theorem witness_ChangeInterval_eject :
    let s := readyMount fun _ => { Mount.reset with state := .changingInterval, target := some .eject }
    s.store.a.mount.target = some .eject ∧ ∀ l, (s.store.line l).owner ≠ some .a := by decide

/-- R131: each refusal: the card lost, with and without a line; the slot absent; taken by the other unit; the entry invalid; unit B, which
the configuration disables. -/
theorem witness_ChangeInterval_refusals :
    let looking := fun (n : Nat) (f : Store → Store) => readyStore fun s =>
      f { s with a := { s.a with mount := { Mount.reset with state := .changingInterval, target := some (.slot n) } } }
    let lost := fun s : Store => { s with link := Link.reset }
    let lostHeld := looking 7 fun s => lost (s.setLine 0 (line7 .held record1 [0]))
    let taken := looking 7 fun s => { s with b := { s.b with mount := mounted7 } }
    let bad := looking 7 fun s => { s with images := { s.images with table := [{ image7 with valid := false }] } }
    let b := readyStore fun s => { s with
      a := UnitStore.reset, b := { s.b with mount := { Mount.reset with state := .changingInterval, target := some (.slot 7) } } }
    (looking 7 lost).store.cardLost = true ∧ (∀ l, ((looking 7 lost).store.line l).owner ≠ some .a) ∧
      (after (.changeIntervalExpiry .a) (looking 7 lost)).store.a.mount.pending = some (.slot 7) ∧
      (lostHeld.store.line 0).owner = some .a ∧
      (after (.changeIntervalExpiry .a) lostHeld).store.a.mount.state = .held ∧
      lookupEntry (looking 9 id).store.images.table 9 = none ∧
      taken.store.b.mount.state = .mounted ∧ taken.store.b.mount.slot = some 7 ∧
      (after (.changeIntervalExpiry .a) taken).store.panel.code = some .e4 ∧
      (lookupEntry bad.store.images.table 7).map Entry.valid = some false ∧
      (after (.changeIntervalExpiry .a) bad).store.panel.code = some .e3 ∧
      b.store.images.config.enabled .b = false ∧ (after (.changeIntervalExpiry .b) b).store.b.mount = Mount.reset := by decide

/-- R133: an eject on an available, unlocked card with a valid catalogue, with and without a resume write in transfer, and on a locked
card. -/
theorem witness_ChangeInterval_resume :
    let eject := fun f : Link → Link => readyStore fun s => { s with
      a := { s.a with mount := { Mount.reset with state := .changingInterval, target := some .eject } }, link := f s.link }
    let writes := eject fun k => { k with state := .busy, current := some (.write ⟨.resume, .catalogue, 0, 0, 1, .transfer, []⟩) }
    (eject id).store.link.available = true ∧ (eject id).store.link.lock ≠ some true ∧
      (eject id).store.images.catalogue.isSome = true ∧ (eject id).store.images.reading = false ∧
      (after (.changeIntervalExpiry .a) (eject id)).store.link.catQ = [.resume] ∧
      (after (.changeIntervalExpiry .a) (eject fun k => { k with catQ := [.resume] })).store.link.catQ = [.resume] ∧
      (after (.changeIntervalExpiry .a) writes).store.images.resumeAgain = true ∧
      (after (.changeIntervalExpiry .a) (eject fun k => { k with lock := some true })).store.link.catQ = [] := by decide

/-- The image header of the worked example's image. -/
def imageHeader7 : List Byte := [0x47, 0x4E, 0x49, 0x4D, 0x41, 0x47, 0x45, 0x31, 7, 80, 2]

theorem witness_ImageHeaderEndMounts :
    let s := readyStore fun s =>
      { s with a := { s.a with mount := { Mount.reset with state := .changingLookup, target := some (.slot 7) } },
               link := { s.link with ended := some (.imageHeader .a, imageHeader7) } }
    s.store.link.ended = some (.imageHeader .a, imageHeader7) ∧ s.store.a.mount.state = .changingLookup ∧
      s.store.a.mount.target = some (.slot 7) ∧ s.store.a.mount.pending = none ∧
      lookupEntry s.store.images.table 7 = some image7 ∧ headerMatches image7 imageHeader7 = true ∧
      headerMatches image7 emptyHeader = false ∧ s.mech.a.lines.motorIn = false := by decide

theorem witness_PresentMapWriteReadsBack : image7.slot < 256 ∧ image7.cimg < 256 ∧ image7.heads < 256 ∧ 167 < 168 := by decide

theorem witness_KeyPressBeginsGesture :
    ready.mech.pins.keys = KeySet.empty ∧ ready.store.panel.gesture = none ∧ ready.store.panel.restart = false ∧
      ready.store.panel.faultOn = false ∧ ready.mech.pins.keys.has .kLoad = false ∧ ready.store.panel.justReset = false := by decide

theorem witness_KeyPress_with_restart :
    (readyPanel fun p => { p with justReset := true }).store.panel.justReset = true ∧ ready.mech.pins.keys.has .kLoad = false := by
  decide

/-- R171, R176, R178: a first press with the fault display on and with a restart pending, and presses that join. -/
theorem witness_KeyPress_other_clauses :
    let joins := fun (first : Key) (spent : Bool) =>
      let s := readyPanel fun p => { p with gesture := some ⟨KeySet.one first, none, spent⟩ }
      ({ s with mech := { s.mech with pins := { s.mech.pins with keys := KeySet.one first } } } : State)
    let fault := readyPanel fun p => { p with faultOn := true, restart := true }
    let restart := readyPanel fun p => { p with restart := true }
    fault.store.panel.faultOn = true ∧ restart.store.panel.faultOn = false ∧ restart.store.panel.restart = true ∧
      (after (.keyPress .kUp) fault).store.panel.restart = true ∧ (after (.keyPress .kUp) restart).store.panel.restart = false ∧
      (joins .kUp false).mech.pins.keys.has .kDown = false ∧
      (after (.keyPress .kDown) (joins .kUp false)).store.panel.gesture = some ⟨⟨false, true, true, false⟩, some 48000000, false⟩ ∧
      (after (.keyPress .kLoad) (joins .kUnit false)).store.panel.gesture = some ⟨⟨true, false, false, true⟩, some 72000000, false⟩ ∧
      (after (.keyPress .kUnit) (joins .kUp false)).store.panel.gesture = some ⟨⟨true, false, true, false⟩, none, true⟩ ∧
      (after (.keyPress .kDown) (joins .kUp true)).store.panel.gesture = some ⟨⟨false, true, true, false⟩, none, true⟩ := by decide

/-- A key has been pressed alone and short, over a table with slots 2, 7 and 31. -/
def pressed (k : Key) (candidate : Option Nat) (m : Mount) : State :=
  let s := readyPanel fun p => { p with
    candidate := candidate, gesture := some ⟨KeySet.one k, if k = .kLoad then some 5 else none, false⟩ }
  { s with mech := { s.mech with pins := { s.mech.pins with keys := KeySet.one k } },
           store := { s.store with
             a := { s.store.a with mount := m },
             images := { s.store.images with
               table := [{ image7 with slot := 31 }, image7, { image7 with slot := 2 }, { image7 with slot := 12, valid := false }] } } }

theorem witness_CandidateFollowsUpAndDown :
    let s := pressed .kUp none mounted7
    s.mech.pins.keys = KeySet.one .kUp ∧ s.store.panel.gesture = some ⟨KeySet.one .kUp, none, false⟩ ∧
      s.store.panel.ignored = KeySet.empty ∧ s.store.walkStart = some 7 ∧ 31 ∈ validSlots s.store.images.table ∧ 7 < 31 ∧
      (∀ x ∈ validSlots s.store.images.table, 7 < x → ¬x < 31) := by decide

theorem witness_Candidate_down_wraps :
    let s := pressed .kDown (some 2) mounted7
    s.mech.pins.keys = KeySet.one .kDown ∧ s.store.panel.gesture = some ⟨KeySet.one .kDown, none, false⟩ ∧
      s.store.walkStart = some 2 ∧ 31 ∈ validSlots s.store.images.table ∧
      (∀ x ∈ validSlots s.store.images.table, ¬x < 2) ∧ ∀ x ∈ validSlots s.store.images.table, ¬31 < x := by decide

theorem witness_ReleasesSendRequests :
    let s := pressed .kLoad (some 2) mounted7
    s.mech.pins.keys = KeySet.one .kLoad ∧ s.store.panel.gesture = some ⟨KeySet.one .kLoad, some 5, false⟩ ∧
      s.store.panel.ignored = KeySet.empty ∧ s.store.panel.candidate = some 2 ∧
      (s.store.unit s.store.panel.addressed).mount.state = .mounted ∧
      (pressed .kLoad (some 2) { mounted7 with state := .unmounting }).store.a.mount.state = .unmounting ∧
      (pressed .kLoad (some 2) Mount.reset).store.a.mount.state = .empty ∧
      (pressed .kLoad (some 2) Mount.reset).store.linesIn .a .held = [] ∧
      (pressed .kLoad (some 2) { Mount.reset with state := .changingInterval }).store.a.mount.state = .changingInterval := by
  decide

theorem witness_Releases_without_request :
    (pressed .kLoad none mounted7).store.panel.candidate = none ∧
      (pressed .kUnit none mounted7).mech.pins.keys = KeySet.one .kUnit ∧
      (pressed .kUnit none mounted7).store.panel.gesture = some ⟨KeySet.one .kUnit, none, false⟩ := by decide

theorem witness_HoldActionsAreTaken :
    let g := fun keys : KeySet => (⟨keys, some 0, false⟩ : Gesture)
    let held := readyStore fun s => { s.setLine 0 (line7 .held record1 [0]) with
      a := { s.a with mount := { mounted7 with state := .held } }, panel := { s.panel with gesture := some (g (KeySet.one .kLoad)) } }
    (readyPanel fun p => { p with gesture := some (g KeySet.upDown) }).store.panel.gesture = some (g KeySet.upDown) ∧
      (g KeySet.upDown).timer.isSome = true ∧ (g KeySet.unitLoad).keys = KeySet.unitLoad ∧
      (ready.store.unit ready.store.panel.addressed).mount.state = .mounted ∧
      held.store.panel.gesture = some (g (KeySet.one .kLoad)) ∧ held.store.a.mount.state = .held ∧
      held.store.linesIn .a .held ≠ [] := by decide

theorem witness_CandidateTimerExpiryClears :
    (readyPanel fun p => { p with candidate := some 2, candTimer := some 0 }).store.panel.candTimer.isSome = true := by decide

/-- A drain is pending for a restart, with line 2 in the given state. -/
def draining (restart : Bool) (st : LineState) : State :=
  readyStore fun s =>
    { s.setLine 2 ⟨st, some .a, some ⟨7, 0, 0⟩, none, [], false, false, []⟩ with
      wb := { s.wb with drain := true }, panel := { s.panel with restart := restart } }

theorem witness_DrainCompleteRestarts :
    (draining true .clean).store.wb.drain = true ∧ (draining true .clean).store.panel.restart = true ∧
      (∀ l, ((draining true .clean).store.line l).state ≠ .dirty ∧ ((draining true .clean).store.line l).state ≠ .writing) ∧
      (∀ l, ((draining true .clean).store.line l).state ≠ .held) := by decide

theorem witness_DrainComplete_held :
    (∀ l, ((draining true .held).store.line l).state ≠ .dirty ∧ ((draining true .held).store.line l).state ≠ .writing) ∧
      (∃ l, ((draining true .held).store.line l).state = .held) ∧ (draining false .clean).store.panel.restart = false := by decide

theorem witness_LayoutCheckSeparatesSectors :
    6250 ≤ 65535 ∧ 0 < 1 ∧ (record17.sectors[8]?).map (fun x => decide (x.pos ≤ 65535)) = some true ∧ ((layoutCheck 6250 record17).sectors[0]?).isSome = true ∧
      ((layoutCheck 6250 record17).sectors[8]?).map Sector.overflow = some false := by decide

/-- R10, R11: a footprint that ends at T is presented, and one that ends a byte time later is not; a sector below the end of the index mark
is shifted to it, and one at the end of it is not. -/
theorem witness_Layout_boundaries :
    let one := fun pos : Nat => { record17 with sectors := [{ sector17 0 with pos := pos }] }
    footprint .mfm 12 (sector17 0) = 574 ∧ indexLength .mfm 12 = 16 ∧
      (layoutCheck 720 (one 146)).sectors.map Sector.overflow = [false] ∧
      (layoutCheck 719 (one 146)).sectors.map Sector.overflow = [true] ∧
      (layoutCheck 6250 (one 95)).sectors.map (fun x => (x.pos, x.shifted)) = [(96, true)] ∧
      (layoutCheck 6250 (one 96)).sectors.map (fun x => (x.pos, x.shifted)) = [(96, false)] := by decide

theorem witness_RecordStringLoadsBack :
    record1.blank = false ∧ record1.enc = image7.enc ∧ record1.sectors.length ≤ 64 ∧ recordLength record1 ≤ image7.slotBytes ∧
      record1.key.slot < 256 ∧ record1.key.cyl < 256 ∧ record1.key.head < 256 ∧ 1 ≤ record1.sync ∧ record1.sync ≤ 16 ∧ 80 ≤ 65535 ∧
      (record1.sectors.all fun x => decide (x.pos ≤ 65535) && match x.data with
        | some part => decide (idLength record1.enc record1.sync ≤ part.d ∧ part.d ≤ 65535 ∧ part.bytes.length = dataLen x.n)
        | none => true) = true := by decide

/-! ### Witnesses of single clauses, at the boundaries of their ranges -/

/-- The state `ready` with the working configuration changed. -/
def readyConfig (f : WorkConfig → WorkConfig) : State :=
  readyStore fun s => { s with images := { s.images with config := f s.images.config } }

/-- R31, R32: with a spin-up time of 0 the mounted source unit rotates at once. -/
theorem witness_MotorOn_at_once :
    let s := readyConfig fun c => { c with spinUp := 0 }
    s.store.images.config.spinUp = 0 ∧ s.mech.cursor.source = some .a ∧ s.store.mounted .a = true ∧
      s.mech.a.rot.params = some (rotParams image7) ∧ (after (.motorOn .l0) s).mech.a.rot.state = .rotating ∧
      (after (.motorOn .l0) s).mech.a.rot.p = 0 := by decide

/-- R158: under the shared mapping MOTOR0 reaches both units. -/
theorem witness_MotorOn_shared :
    let s := readyConfig fun c => { c with enableB := true, sharedMotor := true }
    (∀ u, motorLevel s.store.images.config (s.mech.pins.setMotor .l0 true) u = true ∧ (s.mech.unit u).lines.motorIn = false) ∧
      s.store.mounted .b = false ∧ (after (.motorOn .l0) s).mech.a.rot.state = .spinning ∧
      (after (.motorOn .l0) s).mech.b.lines.motorIn = true ∧ (after (.motorOn .l0) s).mech.b.rot = s.mech.b.rot :=
  ⟨fun u => by cases u <;> decide, by decide, by decide, by decide, by decide⟩

/-- The state `arriving` with the head at a cylinder, a prefetch direction and that cylinder's key resident. -/
def arrivingAt (head : Nat) (up : Bool) : State :=
  let s := arriving 3 true fun s =>
    { s.setLine 0 ⟨.clean, some .a, some ⟨7, head, 0⟩, some record1, [], false, false, []⟩ with a := { s.a with prefetchUp := up } }
  { s with mech := s.mech.modLines .a fun l => { l with head := head } }

/-- R93: toward lower cylinders, cylinder 0 is prefetched from cylinder 1; from cylinder 0 downward and from cylinder Cimg - 1 upward
nothing is. -/
theorem witness_ArrivalFills_directions :
    ((arrivingAt 1 false).store.residentOf ⟨7, 1, 0⟩).isSome = true ∧ (arrivingAt 1 false).store.a.prefetchUp = false ∧
      (arrivingAt 1 false).store.lineOf ⟨7, 0, 0⟩ = none ∧
      ((after (.arrival .a) (arrivingAt 1 false)).store.line 1).key = some ⟨7, 0, 0⟩ ∧
      ((arrivingAt 0 false).store.residentOf ⟨7, 0, 0⟩).isSome = true ∧
      (after (.arrival .a) (arrivingAt 0 false)).store.a.demands = [] ∧
      ((arrivingAt 79 true).store.residentOf ⟨7, 79, 0⟩).isSome = true ∧ image7.cimg ≤ 79 + 1 ∧
      (after (.arrival .a) (arrivingAt 79 true)).store.a.demands = [] := by decide

/-- R46, R183: a pulse lasts for the divider values 0 to 11 of a half-cell of 48 that holds a 1, and no half-cell of 0 has one. -/
theorem witness_HalfCells_rdata :
    let at_ := fun n : Nat => ({ turning 10 with mech := { (turning 10).mech.modRot .a fun r => { r with divider := n } with
      cursor := { Cursor.reset with source := some .a, emitting := true, cells := 0x2000 } } } : State)
    (at_ 95).rdataOut = false ∧ (at_ 96).rdataOut = true ∧ (at_ 107).rdataOut = true ∧ (at_ 108).rdataOut = false ∧
      (at_ 48).rdataOut = false ∧ (turning 10).rdataOut = false := by decide

/-- R165 to R169: the levels of `ready`, and of an unselected unit. -/
theorem witness_WgateAssert_outputs :
    ready.wprotOut = false ∧ (readyLink fun k => { k with lock := some true }).wprotOut = true ∧
      (readyMount fun m => { m with entry := some { image7 with policy := .protect } }).wprotOut = true ∧
      (readyMount fun _ => Mount.reset).wprotOut = true ∧ ready.track0Out = true ∧ (turning 10).indexOut = true ∧
      ({ ready with mech := ready.mech.modLines .a fun l => { l with selected := false } } : State).track0Out = false ∧
      ready.rdychgOut = true ∧ (readyConfig fun c => { c with changeMode := false }).rdychgOut = false := by decide

/-- R89, R91, R93: a claim for cylinder 5 of a single-headed image, with a resident line under the head at cylinder 0 and prefetch on: the
blank fill ends with no demand for the claim's key, and prefetch goes ahead to cylinder 1. -/
theorem witness_WgateRelease_prefetch :
    let s := inSpan .format fun s => { s with
      staging := .parsing { claim7 with key := ⟨7, 5, 0⟩ },
      images := { s.images with config := { s.images.config with prefetch := true } },
      a := { s.a with cylKeys := [⟨7, 0, 0⟩], mount := { mounted7 with entry := some { image7 with heads := 1 }, map := some 2 } } }
    let t := s.store.endSpan 700 .idle
    s.store.lineOf ⟨7, 5, 0⟩ = none ∧ s.store.a.demands = [] ∧ (s.store.line 1).state = .free ∧ (s.store.line 0).state ≠ .free ∧
      (2 : BitVec 168).getLsbD 5 = false ∧ t.staging = .empty ∧ t.demanded .a ⟨7, 5, 0⟩ = false ∧
      t.a.demands.map Demand.key = [⟨7, 1, 0⟩] := by decide

/-- R58, R64: in a field of an aligned span the sixteenth half-cell gives the field its byte, and an earlier one gives none. -/
theorem witness_Flux_field :
    let s := fun n : Nat => searching (halfCells 0 0xE5) fun c =>
      { c with cls := .format, field := .ident true, len := 4, aligned := some n }
    (s 15).decoder.state = .capture ∧ (s 15).decoder.ctx.field = .ident true ∧ (s 15).decoder.ctx.aligned = some 15 ∧
      ((s 15).halfCell image7 50 ((halfCells 0 0xE5).getLsbD 0)).decoder.ctx.taken = [0xE5] ∧ (s 14).decoder.ctx.aligned ≠ some 15 ∧
      ((s 14).halfCell image7 50 false).decoder.ctx.taken = [] := by decide

/-- R58, R60: two pulses of one command are taken in turn, and an interval of 71 clocks at D = 48 ends the alignment. -/
theorem witness_Flux_edges :
    let s := readyCtx .capture fun c => { c with track := some ⟨7, 0, 0⟩, opened := some 0, aligned := some 3 }
    s.store.decoder.state = .capture ∧ s.store.spanEntry = some image7 ∧ 0 < image7.divider ∧
      classifyInterval image7.enc image7.divider (0 + 71) = none ∧ classifyInterval image7.enc image7.divider (0 + 72) = some 2 ∧
      (after (.decodedByte [⟨72, 150⟩, ⟨71, 150⟩]) s).store.decoder.ctx.aligned = none ∧
      ((after (.decodedByte [⟨96, 150⟩, ⟨144, 150⟩]) s).store.decoder.ctx.window.map Prod.fst) = [true, false, false, true, false] := by
  decide

/-- A span without a class over the claimed track, with the staging buffer as given. -/
def unclassed (b : Staging) (track : Option TrackKey) (link : Link) : Store :=
  (readyStore fun s => { s with decoder := ⟨.capture, { s.decoder.ctx with a := 10, track := track }⟩, staging := b, link := link }).store

/-- R65, R71: the first INDEX or ID mark claims the buffer, or makes the span DISCARDED: with no track, with the buffer taken, and with
the card lost. -/
theorem witness_Marks_claim :
    let free := unclassed .empty (some ⟨7, 0, 0⟩) cardUp
    free.decoder.ctx.cls = .unclassed ∧ free.decoder.ctx.track = some ⟨7, 0, 0⟩ ∧ free.staging = .empty ∧ free.cardLost = false ∧
      (free.marks[(3 : Fin 8)]).kind = .index ∧ (free.marks[(0 : Fin 8)]).kind = .ident ∧
      (free.recognized image7 3 60 0xFC).staging = .parsing { claim7 with indexM := some 60 } ∧
      (free.recognized image7 0 60 0xFE).staging = .parsing claim7 ∧
      ((unclassed .empty none cardUp).recognized image7 3 60 0xFC).decoder.ctx.cls = .discarded ∧
      ((unclassed (.waiting claim7) (some ⟨7, 0, 0⟩) cardUp).recognized image7 0 60 0xFE).decoder.ctx.cls = .discarded ∧
      ((unclassed .empty (some ⟨7, 0, 0⟩) Link.reset).recognized image7 3 60 0xFC).decoder.ctx.cls = .discarded := by decide

/-- A new sector of a claim, with its N field and its data part. -/
def newSector (n : Byte) (data : Option NewData) : NewSector := ⟨100, 0xFE, 0, 0, 1, n, false, data⟩

/-- A FORMAT span whose claim has the given sectors. -/
def formatting (xs : List NewSector) (latest : Bool) : Store :=
  { (readyCtx .capture fun c => { c with cls := .format, track := some ⟨7, 0, 0⟩, latest := latest }).store with
    staging := .parsing { claim7 with sectors := xs } }

/-- R72: the 64th sector is kept and the 65th is dropped; so are the last 16 of 16,384 bytes and the next. -/
theorem witness_Ident_limits :
    let full := [newSector 6 (some ⟨160, .data, 0xFB, true, []⟩), newSector 5 (some ⟨160, .data, 0xFB, true, []⟩)]
    let fill := fun k : Nat => full ++ List.replicate k (newSector 3 none)
    ((formatting (List.replicate 63 (newSector 0 none)) false).recognized image7 0 60 0xFE).decoder.ctx.field = .ident true ∧
      ((formatting (List.replicate 64 (newSector 0 none)) false).recognized image7 0 60 0xFE).decoder.ctx.field = .ident false ∧
      ((formatting (fill 3) false).recognized image7 0 60 0xFE).decoder.ctx.field = .ident true ∧
      ((formatting (newSector 5 (some ⟨160, .data, 0xFB, true, []⟩) :: newSector 0 (some ⟨160, .data, 0xFB, true, []⟩) :: fill 0)
        false).recognized image7 0 60 0xFE).decoder.ctx.field = .ident false := by decide

/-- R73: a DATA mark gives the latest new sector its data part; with no latest new sector it opens nothing; where the sector has a data
part already, or its bytes do not fit, the field is dropped. -/
theorem witness_Ident_data_mark :
    let part : NewData := ⟨160, .data, 0xFB, true, []⟩
    let big := [newSector 6 (some part), newSector 5 (some part)]
    ((formatting [newSector 0 none] true).recognized image7 1 160 0xFB).decoder.ctx.field = .newData ∧
      ((formatting [newSector 0 none] true).recognized image7 1 160 0xFB).staging =
        .parsing { claim7 with sectors := [newSector 0 (some { part with bytes := List.replicate 128 0 })] } ∧
      (formatting [newSector 0 none] false).recognized image7 1 160 0xFB = formatting [newSector 0 none] false ∧
      ((formatting [newSector 0 (some part)] true).recognized image7 1 160 0xFB).decoder.ctx.field = .dropped ∧
      ((formatting (big ++ [newSector 4 none]) true).recognized image7 1 160 0xFB).decoder.ctx.field = .newData ∧
      ((formatting (big ++ [newSector 5 none]) true).recognized image7 1 160 0xFB).decoder.ctx.field = .dropped := by decide

/-- R72, R73: an identifier field that is dropped, a data field after two bytes, and the end of a data field and of a dropped one. -/
theorem witness_Ident_fields :
    let part : NewData := ⟨160, .data, 0xFB, true, [0, 0, 0]⟩
    let at_ := fun (f : Field) (len : Nat) =>
      let s := formatting [newSector 0 (some part)] true
      ({ s with decoder := { s.decoder with ctx := { s.decoder.ctx with field := f, len := len, crc := 0xFFFF } } } : Store)
    (at_ (.ident false) 4).decoder.ctx.taken = [] ∧ (at_ (.ident false) 4).decoder.ctx.count = 0 ∧ part.bytes.length = 3 ∧
      ([1, 2, 3, 4, 5, 6].foldl Store.fieldByte (at_ (.ident false) 4)).staging = (at_ (.ident false) 4).staging ∧
      ([1, 2].foldl Store.fieldByte (at_ .newData 3)).staging =
        .parsing { claim7 with sectors := [newSector 0 (some { part with bytes := [1, 2, 0] })] } ∧
      ([1, 2, 3, 4, 5].foldl Store.fieldByte (at_ .newData 3)).staging =
        .parsing { claim7 with sectors := [newSector 0 (some { part with bytes := [1, 2, 3] })] } ∧
      ([1, 2, 3, 4, 5].foldl Store.fieldByte (at_ .dropped 3)).decoder.ctx.field = .none := by decide

/-- R110, R111 and section 6.8: with the cursor at 5 and blocks 0 and 3 dirty again, block 6 is next; with no cursor the smallest; a
block at the cursor or at the extent is not. -/
theorem witness_NextBlockIs :
    NextBlockIs (some 5) 10 32 [0, 3, 6, 7, 8, 9] 6 ∧ NextBlockIs none 10 32 [4, 3] 3 ∧ NextBlockIs (some 8) 10 32 [9, 8] 9 ∧
      ¬NextBlockIs (some 9) 10 32 [0, 9, 10] 10 ∧ ¬NextBlockIs (some 9) 10 32 [0, 9, 10] 9 := by
  simp only [nextBlockIs_iff_firstBlock]
  decide

/-- The pass of section 6.8: the cursor at 5, blocks 0 and 3 dirty again. -/
theorem witness_passes_next_block :
    let dirty := [0, 3, 6, 7, 8, 9]
    let extent := blockCount (passLength false image7.slotBytes record17)
    NextBlockIs (some 5) extent (2 ^ image7.k) dirty 6 ∧ NextBlockIs none extent (2 ^ image7.k) [4, 3] 3 ∧
      NextBlockIs (some 5) extent (2 ^ image7.k) [0, 8] 8 ∧
      (after .arbiterGrant (inPass 5 dirty none id)).store.wb.cursor = some 6 ∧
      (after .arbiterGrant (queued0 image7 record17 [4, 3])).store.wb.cursor = some 3 ∧
      (after .stopBusyEnd (inPass 5 dirty (some (.write (recordTxn .closeStop))) id)).store.wb.cursor = some 6 ∧
      (after (.writeBlockOutcome .accepted) (inPass 5 dirty (some (.write (recordTxn .transfer))) id)).store.wb.cursor = some 6 ∧
      ((after (.writeBlockOutcome .accepted) (inPass 5 dirty (some (.write (recordTxn .transfer))) id)).store.line 0).dirty =
        [0, 3, 7, 8, 9] ∧
      (after (.writeBlockOutcome .accepted) (inPass 5 [0, 8] (some (.write (recordTxn .transfer))) id)).store.link.current =
        some (.write (recordTxn .closeStop)) :=
  ⟨(nextBlockIs_iff_firstBlock ..).2 (by decide), (nextBlockIs_iff_firstBlock ..).2 (by decide),
    (nextBlockIs_iff_firstBlock ..).2 (by decide), by decide, by decide, by decide, by decide, by decide, by decide⟩

theorem witness_Grant_truncated_next : NextBlockIs none 4 4 (List.range 4) 0 := (nextBlockIs_iff_firstBlock ..).2 (by decide)

/-- R114: a present-map write confirmed after an edit added a block sets the bit and leaves the line DIRTY, in the queue. -/
theorem witness_Accepted_map_dirty :
    let t : WriteTxn := ⟨.presentMap, .writeBack, 100, 100, 1, .transfer, []⟩
    let s := inPass 5 [2] (some (.write t)) fun s => { s with a := { s.a with mount := { mounted7 with map := some 0 } } }
    s.store.link.current = some (.write t) ∧ s.store.PassAt 0 .a image7 record17 ⟨7, 0, 0⟩ ∧ s.store.a.mount.map = some 0 ∧
      (s.store.line 0).dirty = [2] ∧ (0 : Fin 8) ∉ s.store.wb.queue ∧
      ((after (.writeBlockOutcome .accepted) s).store.line 0).state = .dirty ∧
      (after (.writeBlockOutcome .accepted) s).store.wb.queue = [0] ∧
      (after (.writeBlockOutcome .accepted) s).store.a.mount.map = some 1 :=
  ⟨by decide, ⟨by decide, by decide, by decide, by decide, by decide⟩, by decide, by decide, by decide, by decide, by decide,
    by decide⟩

theorem witness_FailsReadBlock :
    FailsReadBlock (.readBlockOutcome .cardError) ∧ FailsReadBlock .linkResponseTimeout ∧ FailsReadBlock .readDataTimeout ∧
      FailsReadBlock (.readBlockOutcome (.block (List.replicate 512 0) 1)) :=
  ⟨.inl rfl, .inr (.inl rfl), .inr (.inr (.inl rfl)),
    .inr (.inr (.inr ⟨_, 1, by rw [List.length_replicate], witness_link_check.2, rfl⟩))⟩

/-- A read of a job whose third attempt is in progress, over the store given. -/
def thirdAttempt (job : ReadJob) (f : Store → Store) : State :=
  readyStore fun s => f { s with link := { s.link with
    state := .busy, current := some (.read ⟨job, .catalogue, 1, 1, 1, 3, none, []⟩) } }

/-- R120, R131, R144: the third failure of a directory read, of an image header read with and without a request that waits, and of a
fill's header read. -/
theorem witness_reads_third_failure :
    let lookup := fun pending : Option MountReq => thirdAttempt (.imageHeader .a) fun s =>
      { s with a := { s.a with mount := { Mount.reset with state := .changingLookup, target := some (.slot 7), pending := pending } } }
    let fill := thirdAttempt (.fillHeader 0) fun s => { s.setLine 0 ⟨.filling, some .a, some ⟨7, 0, 0⟩, none, [], false, false, []⟩ with
      images := { s.images with config := { s.images.config with prefetch := false } } }
    (after .linkResponseTimeout (thirdAttempt .directory id)).store.panel.code = some .e2 ∧
      (after .linkResponseTimeout (thirdAttempt .directory id)).store.images.catalogue = none ∧
      (lookup none).store.a.mount.state = .changingLookup ∧
      (after (.readBlockOutcome .cardError) (lookup none)).store.a.mount.state = .empty ∧
      (after (.readBlockOutcome .cardError) (lookup none)).store.panel.code = some .e3 ∧
      (after .readDataTimeout (lookup (some (.slot 9)))).store.a.mount.target = some (.slot 9) ∧
      (fill.store.line 0).state = .filling ∧ fill.store.mounted .a = true ∧ fill.store.staging = .empty ∧
      ((after .linkResponseTimeout fill).store.line 0).state = .fault ∧
      (after .linkResponseTimeout fill).store.panel.code = some .e5 := by decide

/-- R141: steps 1 to 3, an answer that does not end step 2, and capacities of 0 and 1. -/
theorem witness_Initialization_steps :
    let at_ := fun n : Nat => readyLink fun k => { k with state := .initializing, initStep := n }
    let step_ := fun (r : InitResponse) (n : Nat) => (after (.initStepResponse r false) (at_ n)).store.link.initStep
    (at_ 1).store.link.state = .initializing ∧ (at_ 1).store.link.current = none ∧ step_ .response 1 = 2 ∧ step_ .readyReport 2 = 3 ∧
      step_ .response 2 = 2 ∧ step_ (.identify 5 6 1) 3 = 4 ∧ step_ (.identify 5 6 0) 3 = 3 ∧ step_ .errorResponse 4 = 4 ∧
      (after .linkResponseTimeout (at_ 2)).store.link.initStep = 2 := by decide

/-- R31, R85, R132, R133: an image header that matches, with the motor input asserted and a spin-up time of 0, at cylinder 0 of an image
that the card holds, on an unlocked card, on a locked one, and with a resume write in transfer. -/
theorem witness_ImageHeader_clauses :
    let s := fun link : Link =>
      let s := readyStore fun s => { s with
        a := { s.a with mount := { Mount.reset with state := .changingLookup, target := some (.slot 7) } },
        images := { s.images with config := { s.images.config with spinUp := 0 } },
        link := { link with ended := some (.imageHeader .a, imageHeader7) } }
      ({ s with mech := s.mech.modLines .a fun l => { l with motorIn := true } } : State)
    let writes : Link := { cardUp with state := .busy, current := some (.write ⟨.resume, .catalogue, 0, 0, 1, .transfer, []⟩) }
    let t := after .imageHeaderReadEnd (s cardUp)
    (s cardUp).store.images.config.spinUp = 0 ∧ (s cardUp).mech.cursor.source = some .a ∧ (s cardUp).store.a.demands = [] ∧
      image7.heads ≤ 2 ∧ (∀ l, ((s cardUp).store.line l).state = .free) ∧ t.mech.a.rot.state = .rotating ∧
      t.store.a.cylKeys = [⟨7, 0, 0⟩, ⟨7, 0, 1⟩] ∧ t.store.link.catQ = [.resume] ∧
      (after .imageHeaderReadEnd (s { cardUp with lock := some true })).store.link.catQ = [] ∧
      (after .imageHeaderReadEnd (s writes)).store.images.resumeAgain = true := by decide

/-- R173: with no start point UP takes the smallest slot and DOWN the largest; with no valid slot the candidate stays and its timer starts
again, and without a candidate nothing does. -/
theorem witness_Candidate_no_start :
    let none_ := fun c : Option Nat =>
      let s := pressed .kUp c mounted7
      ({ s with store := { s.store with images := { s.store.images with table := [{ image7 with valid := false }] } } } : State)
    let up := pressed .kUp none Mount.reset
    up.store.walkStart = none ∧ (∀ x ∈ validSlots up.store.images.table, ¬x < 2) ∧
      (after (.keyRelease .kUp) up).store.panel.candidate = some 2 ∧
      (after (.keyRelease .kDown) (pressed .kDown none Mount.reset)).store.panel.candidate = some 31 ∧
      validSlots (none_ none).store.images.table = [] ∧
      (after (.keyRelease .kUp) (none_ (some 3))).store.panel.candidate = some 3 ∧
      (after (.keyRelease .kUp) (none_ (some 3))).store.panel.candTimer = some 240000000 ∧
      (after (.keyRelease .kUp) (none_ none)).store.panel.candTimer = none := by decide

/-- R177, R178: what the display shows, place by place. -/
theorem witness_Candidate_display :
    let chars := fun s : State => s.store.displayChars
    let changing := fun m : Mount => readyMount fun _ => m
    chars (readyPanel fun p => { p with faultOn := true, code := some .e7 }) = (('E', false), ('7', false), (' ', false)) ∧
      chars (readyPanel fun p => { p with restart := true }) = (('r', false), ('S', false), ('t', false)) ∧
      chars (readyPanel fun p => { p with candidate := some 31 }) = (('A', false), ('3', true), ('1', true)) ∧
      chars (changing { mounted7 with state := .held }) = (('A', false), ('H', false), ('d', false)) ∧
      chars (changing { mounted7 with state := .unmounting, pending := some .eject }) = (('A', true), ('-', false), ('-', false)) ∧
      chars (changing { Mount.reset with state := .changingInterval, target := some (.slot 99) }) =
        (('A', true), ('9', false), ('9', false)) ∧
      chars (changing Mount.reset) = (('A', false), ('-', false), ('-', false)) := by decide

/-- R177, R179: the points and the LEDs. -/
theorem witness_Candidate_leds :
    (readyLink fun k => { k with state := .parked }).display.2.2.point = true ∧ ready.display.2.2.point = false ∧
      ready.unitLed .a = false ∧ (after (.motorOn .l0) ready).unitLed .a = true ∧ ready.cardLed = false ∧
      (readyLink fun k => { k with state := .busy }).cardLed = true := by decide

/-- R110, R115, R116, R143: a block of 512 bytes is sent in transfer only; a truncated string keeps the sectors that fit the slot. -/
theorem witness_RecordString_outgoing :
    let t : WriteTxn := ⟨.presentMap, .writeBack, 100, 100, 1, .transfer, [1, 2]⟩
    let s := inPass 0 [3] (some (.write (recordTxn .transfer))) fun s => s.setLine 0 (line7 .writing record1 [3])
    s.store.link.current = some (.write (recordTxn .transfer)) ∧ s.store.PassAt 0 .a image7 record1 ⟨7, 0, 0⟩ ∧
      s.store.wb.cursor = some 0 ∧ s.store.outgoingBlock.map Prod.fst = some 103 ∧
      s.store.outgoingBlock.map (fun x => (x.2.1.length, byteAt x.2.1 3, byteAt x.2.1 80)) = some (512, 4, 0xE5) ∧
      (inPass 5 [] (some (.write t)) id).store.outgoingBlock = some (100, [1, 2], crcOf 0 [1, 2]) ∧
      (inPass 5 [] (some (.write (recordTxn .closeStop))) id).store.outgoingBlock = none ∧
      (fitSectors 208 record1.sectors).length = 1 ∧ (fitSectors 207 record1.sectors).length = 0 ∧ 64 ≤ 207 :=
  ⟨by decide, ⟨by decide, by decide, by decide, by decide, by decide⟩, by decide, by decide, by decide, by decide, by decide,
    by decide, by decide, by decide⟩

/-- R43: an ordinary FM byte has a 1 in every clock half-cell, after either data bit. -/
theorem witness_HalfCells_fm :
    emitCells .fm true (.plain 0x00) = 0xAAAA ∧ emitCells .fm false (.plain 0xFF) = 0xFFFF ∧
      emitCells .fm true (.mark 0xFE 0xC7) = 0xF57E := by decide

/-- R17: the descriptor at place 27 ends with block 0, and that at place 28 begins block 1. -/
theorem witness_InDescriptor :
    InDescriptor 27 511 ∧ ¬InDescriptor 27 512 ∧ InDescriptor 28 512 ∧ 511 / 512 = 0 ∧ 512 / 512 = 1 := by
  unfold InDescriptor
  decide

/-- Line 0 holds the record of section 1.7 under a DATA span's target, sector 3. -/
def inTarget (f : SpanCtx → SpanCtx) : Store :=
  (inSpan .data fun s => { s.setLine 0 (line7 .clean record17 []) with
    decoder := { s.decoder with ctx := f { s.decoder.ctx with target := some 3, field := .target, len := 512 } } }).store

/-- R18 and section 1.7: data byte 0 of sector 3 lies in block 3, byte 304 in block 4, and the overrun writes sector 4's descriptor; a span
that ends at the next sector's position writes nothing, and neither does the first CRC byte or a CRC that does not match. -/
theorem witness_DataMark_blocks :
    dataOffset record17.sectors 3 = 64 + 16 * 9 + 3 * 512 ∧
      (((inTarget id).fieldByte 0).line 0).dirty = [3] ∧
      (((inTarget fun c => { c with count := 304 }).fieldByte 0).line 0).dirty = [4] ∧
      (((inTarget fun c => { c with count := 512 }).fieldByte 0).line 0).state = .clean ∧
      (((inTarget fun c => { c with count := 513, crc := 1 }).fieldByte 0).line 0).state = .clean ∧
      (((inTarget fun c => { c with count := 513, crc := 1 }).fieldByte 1).line 0).dirty = [0] ∧
      (((inTarget id).endSpan 2779 .idle).line 0).dirty = [0] ∧ (((inTarget id).endSpan 2778 .idle).line 0).dirty = [] := by decide

/-- R8: with the next sector at 340 the largest offset of `record1`'s sector is 60; a mark at 204 keeps 58, and one at 216 keeps 60. -/
theorem witness_DataMark_kept :
    let r : TrackRecord := { record1 with sectors := record1.sectors ++ [{ sector17 0 with pos := 340, n := 0, data := none }] }
    let s := (inSpan .unclassed fun s => s.setLine 0 (line7 .clean r [])).store
    let kept := fun m : Nat => (((s.recognized image7 1 m 0xFB).line 0).record.bind fun r =>
      (r.sectors[0]?).bind fun x => x.data.map DataPart.d)
    340 - 146 - 128 - 6 = 60 ∧ kept 204 = some 58 ∧ kept 216 = some 60 ∧
      ((s.recognized image7 1 204 0xFB).line 0).dirty = [0] := by decide

/-- R18, R77: a STRAY span over the first sector's ID field, and one over fill alone; on a scratch track the flag is set instead. -/
theorem witness_WgateRelease_blocks :
    let s := fun (a : Nat) (e : Entry) => (inSpan .stray fun s => { s with
      decoder := { s.decoder with ctx := { s.decoder.ctx with a := a } }, a := { s.a with mount := { mounted7 with entry := some e } } }).store
    (((s 10 image7).endSpan 700 .idle).line 0).dirty = [0] ∧ (((s 10 image7).endSpan 146 .idle).line 0).dirty = [] ∧
      (((s 10 { image7 with policy := .scratch }).endSpan 147 .idle).line 0).scratch = true ∧
      (((inSpan .format fun s => { s with staging := .parsing claim7 }).store.endSpan 700 .idle).line 0).dirty = [0] := by decide

/-- R76 step 4: new sectors with an old one's position stand after it, in their span order. -/
theorem witness_FormatMerge_order :
    let old := { record2 with sectors := [{ sector17 0 with n := 0, data := none }, { sector17 0 with pos := 600, n := 0, data := none }] }
    let new := fun (m : Nat) (r : Byte) => (⟨m, 0xFE, 0, 0, r, 0, false, none⟩ : NewSector)
    (old.sectors.map Sector.pos) = [146, 600] ∧
      ((mergeRecord 6250 300 400 none [new 158 7, new 320 8, new 158 9] old).sectors.map Sector.r) = [1, 7, 9, 8, 1] := by decide

/-- R16, R76 step 5: of 65 sectors the one with the highest position goes. -/
theorem witness_FormatMerge_limit :
    let new := (List.range 65).map fun i : Nat => (⟨12 + 30 * (64 - i), 0xFE, 0, 0, BitVec.ofNat 8 (64 - i), 0, false, none⟩ : NewSector)
    let merged := mergeRecord 6250 0 5000 none new { record1 with sectors := [] }
    merged.sectors.length = 64 ∧ (merged.sectors[63]?).map Sector.r = some 63 := by decide

/-- R98, R130: an UNMOUNTING unit with a HELD line, a line whose fill is IN FLIGHT and one whose demand is QUEUED. -/
theorem witness_SafePoint_lines :
    let fill := fun k : Nat => (⟨.filling, some .a, some ⟨7, k, 0⟩, none, [], false, false, []⟩ : Line)
    let s := readyStore fun s => { ((s.setLine 0 (fill 1)).setLine 1 (fill 2)) with
      a := { s.a with
        mount := { mounted7 with state := .unmounting, pending := some .eject },
        demands := [⟨⟨7, 1, 0⟩, .demand, 0, some 0, .inFlight⟩, ⟨⟨7, 2, 0⟩, .demand, 1, some 1, .queued⟩] },
      nextAge := 2, link := { s.link with demandQ := [⟨1, false, 1, 200, 1⟩] } }
    let h : State := { s with store := s.store.setLine 2 (line7 .held record1 [0]) }
    let t := after (.safePoint .a) s
    s.store.a.mount.state = .unmounting ∧ s.store.claimKey .a = [] ∧
      (∀ l, (s.store.line l).state ≠ .dirty ∧ (s.store.line l).state ≠ .writing ∧ (s.store.line l).state ≠ .held) ∧
      t.store.line 0 = { fill 1 with abandoned := true } ∧ t.store.line 1 = Line.free ∧ t.store.link.demandQ = [] ∧
      t.store.a.mount.entry = none ∧ t.store.a.demands.map Demand.age = [0] ∧
      (h.store.line 2).owner = some .a ∧ (after (.safePoint .a) h).store.a.mount.entry = some image7 ∧
      (after (.safePoint .a) h).store.line 2 = line7 .held record1 [0] := by decide

/-- R134, R139: a removal in FAULT, of a mounted unit with and without a HELD line, and of a CHANGING one. -/
theorem witness_CardRemoval_fault :
    let s := readyLink fun _ => { Link.reset with state := .fault }
    let h : State := { s with store := s.store.setLine 0 (line7 .held record1 [0]) }
    let c : State := { s with store := { s.store with
      a := { s.store.a with mount := { Mount.reset with state := .changingInterval, target := some (.slot 7) } } } }
    s.store.link.available = false ∧ s.store.link.state ≠ .absent ∧ s.store.mounted .a = true ∧ s.store.a.demands = [] ∧
      (after .cardRemoval s).store.a.mount = Mount.reset ∧ (after .cardRemoval s).mech.a.rot = Rotation.reset ∧
      (after .cardRemoval h).store.a.mount.state = .held ∧ (after .cardRemoval h).store.line 0 = line7 .held record1 [0] ∧
      (after .cardRemoval c).store.a.mount = { Mount.reset with pending := some (.slot 7) } := by decide

/-- R173: the release of UP from a spent gesture steps no candidate, but starts its 10 s again (log 22). -/
theorem test_spent_release_restarts_candidate :
    let s := pressed .kUp (some 2) mounted7
    let t := after (.keyRelease .kUp) { s with store := { s.store with panel := { s.store.panel with
      gesture := some ⟨KeySet.one .kUp, none, true⟩, candTimer := some 5 } } }
    t.store.panel.candidate = some 2 ∧ t.store.panel.candTimer = some 240000000 ∧ t.store.panel.gesture = none := by decide

/-- R99, R134: a HELD unit whose only line is an abandoned FILLING one is EMPTY after a card loss (log 50). -/
theorem test_held_without_line :
    let s := readyStore fun s => { s.setLine 0 ⟨.filling, some .a, some ⟨7, 5, 0⟩, none, [], false, true, []⟩ with
      a := { s.a with mount := { mounted7 with state := .held, pending := some (.slot 9) } },
      link := { s.link with state := .busy, current := some (.write ⟨.resume, .catalogue, 0, 0, 3, .transfer, []⟩) } }
    let t := after (.writeBlockOutcome .rejected) s
    t.store.link.state = .fault ∧ t.store.line 0 = Line.free ∧ t.store.a.mount = { Mount.reset with pending := some (.slot 9) } := by
  decide

end Sys2Proof.Tests
end

/-! PROOFS. Write capture: the marks and fields of a format span (O30, O31) and the line that a waiting demand takes (O35). -/

namespace Sys2Proof.Machine

/-! ### The span context and the claim that is being parsed -/

@[simp] theorem Store.modCtx_ctx (s : Store) (f : SpanCtx → SpanCtx) : (s.modCtx f).decoder.ctx = f s.decoder.ctx := rfl
@[simp] theorem Store.modCtx_staging (s : Store) (f : SpanCtx → SpanCtx) : (s.modCtx f).staging = s.staging := rfl
@[simp] theorem Store.modCtx_lines (s : Store) (f : SpanCtx → SpanCtx) : (s.modCtx f).lines = s.lines := rfl
@[simp] theorem Store.modCtx_link (s : Store) (f : SpanCtx → SpanCtx) : (s.modCtx f).link = s.link := rfl
@[simp] theorem Store.modCtx_wb (s : Store) (f : SpanCtx → SpanCtx) : (s.modCtx f).wb = s.wb := rfl
@[simp] theorem Store.modCtx_id (s : Store) : (s.modCtx fun z => z) = s := rfl
@[simp] theorem Store.modCtx_modCtx (s : Store) (f g : SpanCtx → SpanCtx) : (s.modCtx f).modCtx g = s.modCtx fun z => g (f z) := rfl
@[simp] theorem Store.parseClaim_decoder (s : Store) (c : Claim) : (s.parseClaim c).decoder = s.decoder := rfl
@[simp] theorem Store.parseClaim_staging (s : Store) (c : Claim) : (s.parseClaim c).staging = .parsing c := rfl
@[simp] theorem Store.parseClaim_lines (s : Store) (c : Claim) : (s.parseClaim c).lines = s.lines := rfl
@[simp] theorem Store.parseClaim_link (s : Store) (c : Claim) : (s.parseClaim c).link = s.link := rfl
@[simp] theorem Store.parseClaim_wb (s : Store) (c : Claim) : (s.parseClaim c).wb = s.wb := rfl
@[simp] theorem Store.parseClaim_modCtx (s : Store) (c : Claim) (f : SpanCtx → SpanCtx) :
    (s.modCtx f).parseClaim c = (s.parseClaim c).modCtx f := rfl
@[simp] theorem Store.parseClaim_parseClaim (s : Store) (c d : Claim) : (s.parseClaim c).parseClaim d = s.parseClaim d := rfl

/-! ### Marks of a format span (R65, R70 to R74) -/

/-- The preset of a field is the CRC of its mark: the bytes before the identifier, where the encoding has them, and the identifier (R64). -/
theorem fieldPreset_eq (enc : Encoding) (e : MarkEntry) (ident : Byte) :
    fieldPreset enc e ident = crcOf 0xFFFF ((if enc = .mfm then List.replicate e.count e.preData else []) ++ [ident]) := by
  cases enc <;> rfl

/-- Changing the last place of a list that is not empty. -/
theorem modify_last {α : Type} (f : α → α) (xs : List α) (x : α) :
    (xs ++ [x]).modify ((xs ++ [x]).length - 1) f = xs ++ [f x] := by
  simp [List.modify_eq_take_cons_drop]

section
variable {s : Store} {c : Claim} {enc : Encoding} {e : Entry} {i : Fin 8} {m : Nat} {ident : Byte}

/-- While the buffer is PARSING, a mark of a format span goes to the parse (R72 to R74). -/
theorem Store.recognized_parsing (hcls : s.decoder.ctx.cls = .format) (hst : s.staging = .parsing c) :
    s.recognized e i m ident = s.parseMark c e.enc i m ident := by
  simp [Store.recognized, hcls, hst]

/-- A span's first mark of kind ID or INDEX begins a format span (R65). -/
theorem Store.recognized_first (hcls : s.decoder.ctx.cls = .unclassed)
    (hk : (s.marks[i]).kind = .ident ∨ (s.marks[i]).kind = .index) :
    s.recognized e i m ident = s.startFormat e.enc i m ident := by
  rcases hk with hk | hk <;> simp only [Store.recognized, hcls, hk]

/-- A format span claims an EMPTY buffer for a track of the image while the card is available (R71). -/
theorem Store.startFormat_claims {key : TrackKey} (ht : s.decoder.ctx.track = some key) (hst : s.staging = .empty)
    (hl : s.cardLost = false) :
    s.startFormat enc i m ident =
      ((s.parseClaim ⟨s.decoder.ctx.unit, key, s.decoder.ctx.a, none, none, []⟩).modCtx fun x => { x with cls := .format }).parseMark
        ⟨s.decoder.ctx.unit, key, s.decoder.ctx.a, none, none, []⟩ enc i m ident := by
  simp only [Store.startFormat, ht, hst, hl]

/-- Without a track, an EMPTY buffer or the card, the span is DISCARDED (R71). -/
theorem Store.startFormat_discards (h : s.decoder.ctx.track = none ∨ s.staging ≠ .empty ∨ s.cardLost = true) :
    s.startFormat enc i m ident = s.modCtx fun x => { x with cls := .discarded } := by
  unfold Store.startFormat
  split
  · next ht hst hl => simp [ht, hst, hl] at h
  · rfl

/-- An INDEX mark places the claim's new index mark (R74). -/
theorem Store.parseMark_index (hk : (s.marks[i]).kind = .index) :
    s.parseMark c enc i m ident = s.parseClaim { c with indexM := some m } := by
  simp only [Store.parseMark, hk]

/-- An ID mark opens a field of four bytes, kept while the claim has room for another sector (R72). -/
theorem Store.parseMark_ident (hk : (s.marks[i]).kind = .ident) :
    s.parseMark c enc i m ident = s.modCtx fun x =>
      { x.openField (.ident (decide (c.sectors.length < 64 ∧ stagedLength c.sectors + 16 ≤ 16384))) 4
          (fieldPreset enc s.marks[i] ident) i m ident with latest := false } := by
  simp only [Store.parseMark, hk, ← Bool.decide_and]
  rfl

/-- A data mark without a latest new sector opens nothing (R73). -/
theorem Store.parseMark_data_ignored (hk : (s.marks[i]).kind = .data ∨ (s.marks[i]).kind = .deleted)
    (hlat : s.decoder.ctx.latest = false) : s.parseMark c enc i m ident = s := by
  rcases hk with hk | hk <;> simp only [Store.parseMark, hk, hlat, Bool.false_eq_true, if_false]

/-- A data mark gives the latest new sector its data part, faulty and of 00 bytes, and opens its field (R73). -/
theorem Store.parseMark_data_kept {older : List NewSector} {x : NewSector}
    (hk : (s.marks[i]).kind = .data ∨ (s.marks[i]).kind = .deleted) (hlat : s.decoder.ctx.latest = true)
    (hc : c.sectors = older ++ [x]) (hx : x.data = none) (hroom : stagedLength c.sectors + dataLen x.n ≤ 16384) :
    s.parseMark c enc i m ident =
      (s.parseClaim { c with sectors := older ++
        [{ x with data := some ⟨m, dataKindOf (s.marks[i]).kind, ident, true, List.replicate (dataLen x.n) 0⟩ }] }).modCtx
        fun z => z.openField .newData (dataLen x.n) (fieldPreset enc s.marks[i] ident) i m ident := by
  have hfits : x.data.isNone ∧ stagedLength (older ++ [x]) + dataLen x.n ≤ Config.lineBytes := ⟨by simp [hx], hc ▸ hroom⟩
  rcases hk with hk | hk <;>
    simp only [Store.parseMark, hk, hlat, hc, if_true, List.getLast?_concat, hfits, and_self, modify_last]

/-- A second data field of a new sector, and one that does not fit, is taken and dropped (R73). -/
theorem Store.parseMark_data_dropped {older : List NewSector} {x : NewSector}
    (hk : (s.marks[i]).kind = .data ∨ (s.marks[i]).kind = .deleted) (hlat : s.decoder.ctx.latest = true)
    (hc : c.sectors = older ++ [x]) (h : x.data ≠ none ∨ 16384 < stagedLength c.sectors + dataLen x.n) :
    s.parseMark c enc i m ident =
      s.modCtx fun z => z.openField .dropped (dataLen x.n) (fieldPreset enc s.marks[i] ident) i m ident := by
  have hno : ¬(x.data.isNone ∧ stagedLength (older ++ [x]) + dataLen x.n ≤ Config.lineBytes) := by
    rw [hc] at h
    rintro ⟨hn, hle⟩
    exact h.elim (fun h => h (Option.isNone_iff_eq_none.1 hn)) (Nat.not_lt.2 hle)
  rcases hk with hk | hk <;>
    simp only [Store.parseMark, hk, hlat, hc, if_true, List.getLast?_concat, hno, if_false]

end

/-! ### The bytes of a field (R64, R72, R73) -/

/-- What every payload byte does to the context: it is counted and enters the CRC (R64). -/
def SpanCtx.tookBytes (c : SpanCtx) (bytes : List Byte) : SpanCtx :=
  { c with count := c.count + bytes.length, crc := crcOf c.crc bytes }

@[simp] theorem SpanCtx.tookBytes_field (c : SpanCtx) (bytes : List Byte) : (c.tookBytes bytes).field = c.field := rfl
@[simp] theorem SpanCtx.tookBytes_len (c : SpanCtx) (bytes : List Byte) : (c.tookBytes bytes).len = c.len := rfl
@[simp] theorem SpanCtx.tookBytes_count (c : SpanCtx) (bytes : List Byte) :
    (c.tookBytes bytes).count = c.count + bytes.length := rfl
@[simp] theorem SpanCtx.tookBytes_crc (c : SpanCtx) (bytes : List Byte) : (c.tookBytes bytes).crc = crcOf c.crc bytes := rfl
@[simp] theorem SpanCtx.tookBytes_nil (c : SpanCtx) : c.tookBytes [] = c := rfl

@[simp] theorem SpanCtx.tookBytes_cons (c : SpanCtx) (b : Byte) (bs : List Byte) :
    (c.tookBytes [b]).tookBytes bs = c.tookBytes (b :: bs) := by
  simp [SpanCtx.tookBytes, crcOf, Nat.add_assoc, Nat.add_comm 1]

/-- A byte string whose bytes from place `i` on are replaced by given ones. -/
def overwrite (xs : List Byte) (i : Nat) (bytes : List Byte) : List Byte := xs.take i ++ bytes ++ xs.drop (i + bytes.length)

@[simp] theorem overwrite_nil (xs : List Byte) (i : Nat) : overwrite xs i [] = xs := by simp [overwrite]

theorem overwrite_start (xs bytes : List Byte) : overwrite xs 0 bytes = bytes ++ xs.drop bytes.length := by simp [overwrite]

/-- Replacing one byte and then those after it. -/
theorem overwrite_set (xs : List Byte) {i : Nat} (h : i < xs.length) (b : Byte) (bs : List Byte) :
    overwrite (xs.set i b) (i + 1) bs = overwrite xs i (b :: bs) := by
  have htake : (xs.set i b).take (i + 1) = xs.take i ++ [b] := by
    rw [List.set_eq_take_append_cons_drop, if_pos h, List.take_append, List.length_take, Nat.min_eq_left (Nat.le_of_lt h),
      List.take_of_length_le (by rw [List.length_take]; omega), Nat.add_sub_cancel_left, List.take_succ_cons, List.take_zero]
  have hdrop : (xs.set i b).drop (i + (bs.length + 1)) = xs.drop (i + (bs.length + 1)) :=
    List.drop_set_of_lt (by omega)
  simp [overwrite, htake, hdrop, Nat.add_assoc, Nat.add_comm 1]

/-- The two CRC bytes form the received CRC, the first of them high (R64). -/
theorem crcBytes_eq_append (hi lo : Byte) : (BitVec.setWidth 16 hi) <<< 8 ||| BitVec.setWidth 16 lo = (hi ++ lo : Word16) := by
  rw [BitVec.append_def, BitVec.shiftLeftZeroExtend_eq, BitVec.setWidth'_eq]

section
variable {s : Store} {c : Claim} {older : List NewSector} {x : NewSector}

/-- A byte before the field's CRC is payload (R64). -/
theorem Store.fieldByte_payload {b : Byte} (h : s.decoder.ctx.count < s.decoder.ctx.len) :
    s.fieldByte b = (s.payloadByte s.decoder.ctx.count b).modCtx fun z => z.tookBytes [b] := by
  simp only [Store.fieldByte, h, if_true]
  rfl

/-- The two bytes after a field's payload are its CRC and complete it (R64). -/
theorem Store.foldl_fieldByte_crc {hi lo : Byte} (h : s.decoder.ctx.count = s.decoder.ctx.len) :
    [hi, lo].foldl Store.fieldByte s =
      (s.modCtx fun z => { z with count := z.count + 2, crcGot := (hi ++ lo : Word16) }).fieldComplete := by
  have hfirst : s.fieldByte hi = s.modCtx fun z => { z with count := z.count + 1, crcGot := (BitVec.setWidth 16 hi) <<< 8 } := by
    simp only [Store.fieldByte, h, Nat.lt_irrefl, if_false, if_true]
  have hpast : ¬s.decoder.ctx.len + 1 < s.decoder.ctx.len := by omega
  have hnot : s.decoder.ctx.len + 1 ≠ s.decoder.ctx.len := by omega
  rw [List.foldl_cons, List.foldl_cons, List.foldl_nil, hfirst]
  simp only [Store.fieldByte, Store.modCtx_ctx, Store.modCtx_modCtx, h, hpast, hnot, if_false, crcBytes_eq_append]

/-- The payload bytes of an ID field are collected (R72). -/
theorem Store.foldl_fieldByte_ident {keep : Bool} (bytes : List Byte) (hf : s.decoder.ctx.field = .ident keep)
    (hlen : s.decoder.ctx.count + bytes.length ≤ s.decoder.ctx.len) :
    bytes.foldl Store.fieldByte s = s.modCtx fun z => { z.tookBytes bytes with taken := z.taken ++ bytes } := by
  induction bytes generalizing s with
  | nil => simp
  | cons b bs ih =>
    rw [List.length_cons] at hlen
    have hb : s.fieldByte b = s.modCtx fun z => { z.tookBytes [b] with taken := z.taken ++ [b] } := by
      rw [Store.fieldByte_payload (by omega), Store.payloadByte, hf]
      rfl
    rw [List.foldl_cons, hb, ih]
    · simp [SpanCtx.tookBytes, crcOf, Nat.add_assoc, Nat.add_comm 1]
    · simp [hf]
    · simp; omega

/-- The payload bytes of a dropped field leave no trace but the count and the CRC (R72, R73). -/
theorem Store.foldl_fieldByte_dropped (bytes : List Byte) (hf : s.decoder.ctx.field = .dropped)
    (hlen : s.decoder.ctx.count + bytes.length ≤ s.decoder.ctx.len) :
    bytes.foldl Store.fieldByte s = s.modCtx fun z => z.tookBytes bytes := by
  induction bytes generalizing s with
  | nil => simp
  | cons b bs ih =>
    rw [List.length_cons] at hlen
    have hb : s.fieldByte b = s.modCtx fun z => z.tookBytes [b] := by
      rw [Store.fieldByte_payload (by omega), Store.payloadByte, hf]
    rw [List.foldl_cons, hb, ih]
    · simp
    · simp [hf]
    · simp; omega

/-- Changing the last new sector of the claim that is being parsed. -/
theorem Store.modLastNew_parsing (f : NewSector → NewSector) (hst : s.staging = .parsing { c with sectors := older ++ [x] }) :
    s.modLastNew f = s.parseClaim { c with sectors := older ++ [f x] } := by
  simp only [Store.modLastNew, hst, modify_last]

/-- The claim that is being parsed, by its last new sector and that sector's data part. -/
theorem Store.staging_eq_of_last {part : NewData} (hst : s.staging = .parsing c) (hc : c.sectors = older ++ [x])
    (hx : x.data = some part) : s.staging = .parsing { c with sectors := older ++ [{ x with data := some part }] } := by
  rw [hst, ← hx, ← hc]

/-- The payload bytes of a new data field replace the data part's bytes from the field's count on (R73). -/
theorem Store.foldl_fieldByte_newData {part : NewData} (bytes : List Byte) (hf : s.decoder.ctx.field = .newData)
    (hst : s.staging = .parsing { c with sectors := older ++ [{ x with data := some part }] })
    (hlen : s.decoder.ctx.count + bytes.length ≤ s.decoder.ctx.len) (hpart : part.bytes.length = s.decoder.ctx.len) :
    bytes.foldl Store.fieldByte s =
      (s.parseClaim { c with sectors := older ++ [{ x with data := some { part with
        bytes := overwrite part.bytes s.decoder.ctx.count bytes } }] }).modCtx
        fun z => z.tookBytes bytes := by
  induction bytes generalizing s part with
  | nil => simp [Store.modCtx, Store.parseClaim, ← hst]
  | cons b bs ih =>
    rw [List.length_cons] at hlen
    have hb : s.fieldByte b =
        (s.parseClaim { c with sectors := older ++ [{ x with data := some { part with
          bytes := part.bytes.set s.decoder.ctx.count b } }] }).modCtx fun z => z.tookBytes [b] := by
      rw [Store.fieldByte_payload (by omega), Store.payloadByte, hf]
      simp only [Store.modLastNew_parsing _ hst, Option.map_some]
    rw [List.foldl_cons, hb, ih (part := { part with bytes := part.bytes.set s.decoder.ctx.count b })]
    · simp [overwrite_set part.bytes (show s.decoder.ctx.count < part.bytes.length by omega)]
    · simp [hf]
    · simp
    · simp; omega
    · simp [hpart]

/-- A kept ID field that completes adds its new sector to the claim, the latest one from here on (R72). -/
theorem Store.fieldComplete_ident_kept (hf : s.decoder.ctx.field = .ident true) (hst : s.staging = .parsing c) :
    s.fieldComplete =
      (s.parseClaim { c with sectors := c.sectors ++
        [⟨s.decoder.ctx.markPos, s.decoder.ctx.ident, byteAt s.decoder.ctx.taken 0, byteAt s.decoder.ctx.taken 1,
          byteAt s.decoder.ctx.taken 2, byteAt s.decoder.ctx.taken 3, s.decoder.ctx.crcGot != s.decoder.ctx.crc, none⟩] }).modCtx
        fun z => { z.closeField with latest := true } := by
  simp only [Store.fieldComplete, hf, Store.addNewSector, hst]
  rfl

/-- A new data field that completes sets the data part's fault flag exactly where the CRC differs (R73). -/
theorem Store.fieldComplete_newData {part : NewData} (hf : s.decoder.ctx.field = .newData)
    (hst : s.staging = .parsing { c with sectors := older ++ [{ x with data := some part }] }) :
    s.fieldComplete =
      (s.parseClaim { c with sectors := older ++ [{ x with data := some { part with
        fault := s.decoder.ctx.crcGot != s.decoder.ctx.crc } }] }).modCtx SpanCtx.closeField := by
  simp only [Store.fieldComplete, hf, Store.modLastNew_parsing _ hst, Option.map_some]
  rfl

/-- A dropped field that completes only ends (R72, R73). -/
theorem Store.fieldComplete_dropped (hf : s.decoder.ctx.field = .ident false ∨ s.decoder.ctx.field = .dropped) :
    s.fieldComplete = s.modCtx SpanCtx.closeField := by
  rcases hf with hf | hf <;> simp only [Store.fieldComplete, hf]

/-- The context in which a field completes: its payload taken and its CRC received. -/
def SpanCtx.received (z : SpanCtx) (bytes : List Byte) (hi lo : Byte) : SpanCtx :=
  { z.tookBytes bytes with count := z.count + bytes.length + 2, crcGot := (hi ++ lo : Word16) }

@[simp] theorem SpanCtx.received_field (z : SpanCtx) (bytes : List Byte) (hi lo : Byte) :
    (z.received bytes hi lo).field = z.field := rfl
@[simp] theorem SpanCtx.received_crc (z : SpanCtx) (bytes : List Byte) (hi lo : Byte) :
    (z.received bytes hi lo).crc = crcOf z.crc bytes := rfl
@[simp] theorem SpanCtx.received_crcGot (z : SpanCtx) (bytes : List Byte) (hi lo : Byte) :
    (z.received bytes hi lo).crcGot = (hi ++ lo : Word16) := rfl
@[simp] theorem SpanCtx.received_markPos (z : SpanCtx) (bytes : List Byte) (hi lo : Byte) :
    (z.received bytes hi lo).markPos = z.markPos := rfl
@[simp] theorem SpanCtx.received_ident (z : SpanCtx) (bytes : List Byte) (hi lo : Byte) :
    (z.received bytes hi lo).ident = z.ident := rfl
@[simp] theorem SpanCtx.received_latest (z : SpanCtx) (bytes : List Byte) (hi lo : Byte) :
    (z.received bytes hi lo).latest = z.latest := rfl
@[simp] theorem SpanCtx.closeField_field (z : SpanCtx) : z.closeField.field = .none := rfl
@[simp] theorem SpanCtx.closeField_latest (z : SpanCtx) : z.closeField.latest = z.latest := rfl

/-- The whole of an ID field, from its first byte (R72). -/
theorem Store.foldl_fieldByte_identField {keep : Bool} {bytes : List Byte} {hi lo : Byte} (hf : s.decoder.ctx.field = .ident keep)
    (hcount : s.decoder.ctx.count = 0) (htaken : s.decoder.ctx.taken = []) (hbytes : bytes.length = s.decoder.ctx.len) :
    (bytes ++ [hi, lo]).foldl Store.fieldByte s =
      (s.modCtx fun z => { z.received bytes hi lo with taken := bytes }).fieldComplete := by
  rw [List.foldl_append, Store.foldl_fieldByte_ident _ hf (by omega), Store.foldl_fieldByte_crc (by simp [hcount, hbytes]),
    Store.modCtx_modCtx]
  simp only [Store.modCtx, SpanCtx.received, htaken, List.nil_append, SpanCtx.tookBytes_count]

/-- The whole of a new data field, from its first byte (R73). -/
theorem Store.foldl_fieldByte_newDataField {part : NewData} {bytes : List Byte} {hi lo : Byte}
    (hf : s.decoder.ctx.field = .newData)
    (hst : s.staging = .parsing { c with sectors := older ++ [{ x with data := some part }] })
    (hcount : s.decoder.ctx.count = 0) (hpart : part.bytes.length = s.decoder.ctx.len) (hbytes : bytes.length = s.decoder.ctx.len) :
    (bytes ++ [hi, lo]).foldl Store.fieldByte s =
      (s.parseClaim { c with sectors := older ++ [{ x with data := some { part with
        bytes := bytes, fault := (hi ++ lo : Word16) != crcOf s.decoder.ctx.crc bytes } }] }).modCtx
        fun z => (z.received bytes hi lo).closeField := by
  have hall : overwrite part.bytes 0 bytes = bytes := by rw [overwrite_start, List.drop_of_length_le (by omega), List.append_nil]
  rw [List.foldl_append, Store.foldl_fieldByte_newData _ hf hst (by omega) hpart, Store.foldl_fieldByte_crc (by simp [hcount, hbytes]),
    hcount, hall, Store.fieldComplete_newData (c := c) (older := older) (x := x) (part := { part with bytes := bytes })]
  · simp [SpanCtx.received]
  · simp [hf]
  · simp

/-- The whole of a dropped data field, from its first byte (R73). -/
theorem Store.foldl_fieldByte_droppedField {bytes : List Byte} {hi lo : Byte} (hf : s.decoder.ctx.field = .dropped)
    (hcount : s.decoder.ctx.count = 0) (hbytes : bytes.length = s.decoder.ctx.len) :
    (bytes ++ [hi, lo]).foldl Store.fieldByte s = s.modCtx fun z => (z.received bytes hi lo).closeField := by
  rw [List.foldl_append, Store.foldl_fieldByte_dropped _ hf (by omega), Store.foldl_fieldByte_crc (by simp [hcount, hbytes]),
    Store.fieldComplete_dropped (.inr (by simp [hf]))]
  simp [SpanCtx.received]

end

/-! ### Lines for demands (R80 to R82, R87, R96) -/

/-- A search of the lines ends at the lowest-numbered one that passes the test. -/
theorem find_lineNumbers {p : Fin 8 → Bool} {l : Fin 8} (hl : p l = true) (hlow : ∀ k, k < l → p k = false) :
    lineNumbers.find? p = some l := by
  have hget : ∀ (j : Nat) (h : j < lineNumbers.length), (lineNumbers[j]).val = j := by decide
  refine List.find?_eq_some_iff_getElem.2 ⟨hl, l.val, l.isLt, Fin.ext (hget _ _), fun j hj => ?_⟩
  rw [hlow _ (by rw [Fin.lt_def, hget]; exact hj)]
  rfl

/-- The card is not lost exactly where it is available (R138). -/
theorem Store.cardLost_eq_false {s : Store} : s.cardLost = false ↔ s.link.available = true := by
  simp [Store.cardLost]

section
variable {s : Store} {u : Drive} {l : Fin 8}

/-- Below its quota a unit takes the lowest-numbered FREE line (R82, R87). -/
theorem Store.chooseLine_free (hl : (s.line l).state = .free) (hlow : ∀ k, k < l → (s.line k).state ≠ .free)
    (hb : (s.ownedLines u).length < s.quota u) : s.chooseLine u = some l := by
  have hfind : s.freeLineNumber = some l := find_lineNumbers (by simp [hl]) fun k hk => by simp [hlow k hk]
  simp only [Store.chooseLine, Store.takeFree, hb, if_true, hfind]

/-- With no FREE line, or at its quota, a unit reuses one of its own (R87). -/
theorem Store.chooseLine_reuse (h : (∀ k, (s.line k).state ≠ .free) ∨ ¬(s.ownedLines u).length < s.quota u) :
    s.chooseLine u = s.reuseLine u := by
  have hnone : s.takeFree u = none := by
    unfold Store.takeFree
    split
    · next hb =>
      have hfree := h.resolve_right fun hn => hn hb
      simpa [Store.freeLineNumber] using fun k _ => hfree k
    · rfl
  simp only [Store.chooseLine, hnone]

/-- A line that the unit may reuse: CLEAN or FAULT, its own, unpinned and without the abandoned mark (R87 item 2). -/
def Store.Reusable (s : Store) (u : Drive) (l : Fin 8) : Prop :=
  (s.line l).owner = some u ∧ ((s.line l).state = .clean ∨ (s.line l).state = .fault) ∧ (s.line l).abandoned = false ∧
    s.pinned l = false

/-- The line that a demand reuses by the order in which the lines were presented (R87 item 2, R96). -/
def Store.LeastPresented (s : Store) (u : Drive) (l : Fin 8) : Prop :=
  ∃ older newer : List (Fin 8), (s.unit u).recency = older ++ l :: newer ∧ s.Reusable u l ∧
    (((s.line l).scratch = false ∧ ∀ k ∈ older, s.Reusable u k → (s.line k).scratch = true) ∨
      ((∀ k ∈ (s.unit u).recency, s.Reusable u k → (s.line k).scratch = true) ∧ ∀ k ∈ older, ¬s.Reusable u k))

/-- The least presented line is reusable. -/
theorem Store.LeastPresented.reusable (h : s.LeastPresented u l) : s.Reusable u l :=
  let ⟨_, _, _, hl, _⟩ := h
  hl

/-- The lines a unit may reuse are those of its recency order that pass the test. -/
theorem Store.mem_reusable : l ∈ s.reusable u ↔ l ∈ (s.unit u).recency ∧ s.Reusable u l := by
  simp [Store.reusable, Store.Reusable, and_assoc]

/-- The reusable lines in front of a reusable one are those in front of it in the recency order. -/
theorem Store.reusable_split {older newer : List (Fin 8)} (hrec : (s.unit u).recency = older ++ l :: newer) (hl : s.Reusable u l) :
    ∃ before after : List (Fin 8), s.reusable u = before ++ l :: after ∧ ∀ k ∈ before, k ∈ older ∧ s.Reusable u k := by
  obtain ⟨howner, hstate, habandoned, hpinned⟩ := hl
  unfold Store.reusable
  rw [hrec, List.filter_append, List.filter_cons_of_pos (by simp [howner, hstate, habandoned, hpinned])]
  refine ⟨_, _, rfl, fun k hk => ?_⟩
  simpa [Store.Reusable, and_assoc] using hk

/-- The model's choice among the reusable lines is the least presented one (R87 item 2, R96). -/
theorem Store.reuseLine_eq_some (h : s.LeastPresented u l) : s.reuseLine u = some l := by
  obtain ⟨older, newer, hrec, hl, hscr⟩ := h
  obtain ⟨before, after, hsplit, hbefore⟩ := Store.reusable_split hrec hl
  rcases hscr with ⟨hclear, hold⟩ | ⟨hall, hold⟩
  · have hfind : (s.reusable u).find? (fun k => !(s.line k).scratch) = some l := by
      rw [hsplit, List.find?_append, List.find?_eq_none.2 fun k hk => by simp [hold k (hbefore k hk).1 (hbefore k hk).2]]
      simp [hclear]
    simp only [Store.reuseLine, hfind]
  · have hfind : (s.reusable u).find? (fun k => !(s.line k).scratch) = none :=
      List.find?_eq_none.2 fun k hk => by simp [hall k (mem_reusable.1 hk).1 (mem_reusable.1 hk).2]
    have hnil : before = [] := List.eq_nil_iff_forall_not_mem.2 fun k hk => hold k (hbefore k hk).1 (hbefore k hk).2
    simp only [Store.reuseLine, hfind]
    rw [hsplit, hnil, List.nil_append, List.head?_cons]

/-- Without a reusable line there is none to take (R87). -/
theorem Store.reuseLine_eq_none (h : ∀ k ∈ (s.unit u).recency, ¬s.Reusable u k) : s.reuseLine u = none := by
  have hnil : s.reusable u = [] := List.eq_nil_iff_forall_not_mem.2 fun k hk => h k (mem_reusable.1 hk).1 (mem_reusable.1 hk).2
  simp only [Store.reuseLine, hnil, List.find?_nil, List.head?_nil]

/-- A line a demand may take: FREE, or reusable (R87). -/
def Store.Takeable (s : Store) (u : Drive) (l : Fin 8) : Prop := s.line l = Line.free ∨ s.Reusable u l

/-- A line a demand may take holds no pinned key of the unit (R79, R87). -/
theorem Store.Takeable.key_ne (h : s.Takeable u l) {key : TrackKey} (hpin : (s.pinSet u).contains key = true) :
    (s.line l).key ≠ some key := by
  intro hk
  rcases h with hfree | ⟨howner, -, -, hpinned⟩
  · simp [hfree, Line.free] at hk
  · simp only [Store.pinned, howner, hk, hpin] at hpinned
    simp at hpinned

/-- A line a demand may take is charged to no other unit (R82). -/
theorem Store.Takeable.owner (h : s.Takeable u l) : (s.line l).owner = none ∨ (s.line l).owner = some u := by
  rcases h with hfree | ⟨howner, -⟩
  · exact .inl (by rw [hfree]; rfl)
  · exact .inr howner

/-! ### A line taken for a demand (R69, R83, R87, R90) -/

/-- A wake changes the link's state alone (R152). -/
theorem Store.wake_eq (s : Store) :
    s.wake = { s with link := { s.link with state := if s.link.state = .parked then .idle else s.link.state } } := by
  unfold Store.wake
  split <;> rfl

/-- Giving up a target changes the decoder alone (R69). -/
theorem Store.dropTarget_eq (s : Store) (l : Fin 8) :
    s.dropTarget l = { s with decoder := if s.decoder.ctx.targetLine = some l then
      { s.decoder with ctx := { s.decoder.ctx with target := none, targetLine := none } } else s.decoder } := by
  unfold Store.dropTarget
  split <;> rfl

@[simp] theorem Store.dropTarget_unit (s : Store) (l : Fin 8) (u : Drive) : (s.dropTarget l).unit u = s.unit u := by
  rw [Store.dropTarget_eq]; cases u <;> rfl

/-- A request under DEMAND joins its queue by age, wakes a parked link and asks a WRITE-BACK grant to suspend (R147, R149, R152). -/
theorem Store.askFill_demand (s : Store) (r : FillReq) :
    s.askFill .demand r = { s with link := { s.link with
      state := if s.link.state = .parked then .idle else s.link.state, demandQ := insertReq r s.link.demandQ,
      suspendReq := s.link.suspendReq || s.wbGrant } } := by
  simp only [Store.askFill, Store.wake_eq]
  rfl

/-- A demand with its line asks for the header of a track that the card holds (R90). -/
theorem Store.startFill_queued {age : Nat} {cls : DemandClass} {key : TrackKey} {e : Entry} {map : BitVec 168}
    (he : (s.unit u).mount.entry = some e) (hm : (s.unit u).mount.map = some map) (hbit : mapBit map (e.trackIndex key) = true)
    (hlost : s.cardLost = false) :
    s.startFill u l age cls key = (s.stageDemand u age l .queued).askFill cls ⟨l, false, age, e.slotStart key, 1⟩ := by
  simp only [Store.startFill, he, hm, hbit, hlost, if_true, Bool.false_eq_true, if_false]

/-- The store after a demand has taken a line: the line is FILLING at the most recent end of the order, and what it held is gone, a
span's target in it included (R69, R83, R87). -/
def Store.taken (s : Store) (u : Drive) (l : Fin 8) (d : Demand) : Store :=
  { (s.setUnit u
      { s.unit u with
        demands := [{ d with line := some l, stage := .queued }],
        recency := (s.unit u).recency.filter (fun y => decide (y ≠ l)) ++ [l] }).setLine l (Line.fillingFor u d.key) with
    decoder := if s.decoder.ctx.targetLine = some l then
        { s.decoder with ctx := { s.decoder.ctx with target := none, targetLine := none } }
      else s.decoder }

@[simp] theorem Store.taken_unit (d : Demand) :
    (s.taken u l d).unit u = { s.unit u with
      demands := [{ d with line := some l, stage := .queued }],
      recency := (s.unit u).recency.filter (fun y => decide (y ≠ l)) ++ [l] } := by
  cases u <;> rfl
@[simp] theorem Store.taken_link (d : Demand) : (s.taken u l d).link = s.link := by cases u <;> rfl
@[simp] theorem Store.taken_wb (d : Demand) : (s.taken u l d).wb = s.wb := by cases u <;> rfl
@[simp] theorem Store.taken_wbGrant (d : Demand) : (s.taken u l d).wbGrant = s.wbGrant := by simp [Store.wbGrant]
@[simp] theorem Store.taken_line (d : Demand) : (s.taken u l d).line l = Line.fillingFor u d.key := by
  cases u <;> exact Store.setLine_line _ l _
theorem Store.taken_line_ne (d : Demand) {k : Fin 8} (h : k ≠ l) : (s.taken u l d).line k = s.line k := by
  cases u <;> exact Store.setLine_line_ne _ h.symm _

/-- Taking a line that is FREE or the unit's own: it leaves the order and joins it at the most recent end (R83, R87). -/
theorem Store.attach_touch (key : TrackKey) (h : (s.line l).owner = none ∨ (s.line l).owner = some u) :
    (s.attach u l key).touch u l = ((s.touch u l).dropTarget l).setLine l (Line.fillingFor u key) := by
  rcases h with h | h <;> cases u <;>
    simp [Store.attach, Store.leaveOrder, h, Store.touch, Store.modUnit, Store.setUnit, Store.setLine, Store.dropTarget_eq]

/-- The one demand of a unit gets its line and stage. -/
theorem Store.stageDemand_single {d : Demand} (hd : (s.unit u).demands = [d]) (st : DemandStage) :
    s.stageDemand u d.age l st = s.setUnit u { s.unit u with demands := [{ d with line := some l, stage := st }] } := by
  simp [Store.stageDemand, Store.modDemands, Store.modUnit, hd]

/-- A line is taken for the unit's one demand. -/
theorem Store.attach_touch_stage {d : Demand} (hd : (s.unit u).demands = [d])
    (h : (s.line l).owner = none ∨ (s.line l).owner = some u) :
    ((s.attach u l d.key).touch u l).stageDemand u d.age l .queued = s.taken u l d := by
  rw [Store.attach_touch _ h, Store.stageDemand_single]
  · cases u <;> simp [Store.touch, Store.modUnit, Store.setUnit, Store.setLine, Store.dropTarget_eq, Store.taken]
  · simpa [Store.touch] using hd

/-- Giving that demand its line and stage again changes nothing. -/
theorem Store.taken_stage (d : Demand) : (s.taken u l d).stageDemand u d.age l .queued = s.taken u l d := by
  rw [Store.stageDemand_single (d := { d with line := some l, stage := .queued }) (by simp)]
  cases u <;> rfl

/-- A demand that takes a line for a track that the card holds asks for the read of the slot's first block (R87, R90). -/
theorem Store.serveOne_taken {d : Demand} {e : Entry} {map : BitVec 168} (hd : (s.unit u).demands = [d])
    (hkey : s.lineOf d.key = none) (hchoose : s.chooseLine u = some l) (ht : s.Takeable u l)
    (he : (s.unit u).mount.entry = some e) (hm : (s.unit u).mount.map = some map) (hbit : mapBit map (e.trackIndex d.key) = true)
    (hlink : s.link.available = true) :
    s.serveOne u d = (s.taken u l d).askFill d.cls ⟨l, false, d.age, e.slotStart d.key, 1⟩ := by
  simp only [Store.serveOne, hkey, hchoose]
  rw [Store.attach_touch_stage hd ht.owner,
    Store.startFill_queued (by simpa using he) (by simpa using hm) hbit (Store.cardLost_eq_false.2 (by simpa using hlink)),
    Store.taken_stage]

/-- Without a line to take, and for a key that a line holds already, a demand stays WAITING (R81, R88). -/
theorem Store.serveOne_waits {d : Demand} (h : s.chooseLine u = none ∨ (s.lineOf d.key).isSome = true) : s.serveOne u d = s := by
  unfold Store.serveOne
  split
  · next hkey hchoose => simp [hkey, hchoose] at h
  · rfl

/-- One waiting demand is the whole of what is served. -/
theorem Store.serveWaiting_single {d : Demand} (hd : (s.unit u).demands = [d]) (hw : d.stage = .waiting) :
    s.serveWaiting u = s.serveOne u d := by
  simp [Store.serveWaiting, Store.waitingDemands, hd, hw]

/-! ### No key of the pin set is filled by taking a line (R89, R91) -/

/-- A key has no line exactly where no line outside FREE holds it (R81). -/
theorem Store.lineOf_eq_none {key : TrackKey} :
    s.lineOf key = none ↔ ∀ k, (s.line k).state ≠ .free → (s.line k).key ≠ some key := by
  simp [Store.lineOf, lineNumbers, Fin.forall_fin_succ]

/-- A line taken for one key leaves the residence of every other key as it was, where it did not hold that key. -/
theorem Store.taken_residentOf_ne {d : Demand} {key : TrackKey} (hd : d.key ≠ key) (hl : (s.line l).key ≠ some key) :
    (s.taken u l d).residentOf key = s.residentOf key := by
  have htest : ∀ k, (decide (((s.taken u l d).line k).state ≠ .free) && ((s.taken u l d).line k).key == some key) =
      (decide ((s.line k).state ≠ .free) && (s.line k).key == some key) := by
    intro k
    by_cases hk : k = l
    · subst hk
      rw [Store.taken_line, beq_eq_false_iff_ne.2 hl, Line.fillingFor, beq_eq_false_iff_ne.2 (by simpa using hd)]
      simp
    · rw [Store.taken_line_ne d hk]
  have hline : (s.taken u l d).lineOf key = s.lineOf key := by simp only [Store.lineOf, htest]
  unfold Store.residentOf
  rw [hline]
  split
  · next m hm =>
    have hml : m ≠ l := by
      rintro rfl
      have := List.find?_some hm
      simp [hl] at this
    rw [Store.taken_line_ne d hml]
  · rfl

/-- A line taken for a key that no line held is FILLING, so that the key is not resident (R80). -/
theorem Store.taken_residentOf_self {d : Demand} (hkey : s.lineOf d.key = none) : (s.taken u l d).residentOf d.key = none := by
  unfold Store.residentOf
  split
  · next m hm =>
    have hml : m = l := by
      refine Decidable.byContradiction fun hne => ?_
      have htest := List.find?_some hm
      rw [Store.taken_line_ne d hne] at htest
      simp only [Bool.and_eq_true, decide_eq_true_eq, beq_iff_eq] at htest
      exact Store.lineOf_eq_none.1 hkey m htest.1 htest.2
    subst hml
    simp [Line.fillingFor, LineState.resident]
  · rfl

/-- Where no key of the pin set has been filled, prefetch is not evaluated (R91). -/
theorem Store.evalIfFilled_eq_self {old : Store}
    (h : ∀ key, (old.pinSet u).contains key = true → old.residentOf key = none → s.residentOf key = none) :
    Store.evalIfFilled old s u = s := by
  have hany : ((old.pinSet u).any fun key => (old.residentOf key).isNone && (s.residentOf key).isSome) = false := by
    simpa using h
  simp only [Store.evalIfFilled, hany, Bool.false_eq_true, if_false]

/-- Taking a line fills no key of the pin set. -/
theorem Store.evalIfFilled_taken {d : Demand} {r : FillReq} (hkey : s.lineOf d.key = none) (ht : s.Takeable u l) :
    Store.evalIfFilled s ((s.taken u l d).askFill .demand r) u = (s.taken u l d).askFill .demand r := by
  refine Store.evalIfFilled_eq_self fun key hpin hres => ?_
  have hask : ((s.taken u l d).askFill .demand r).residentOf key = (s.taken u l d).residentOf key := by
    rw [Store.askFill_demand]; rfl
  rw [hask]
  by_cases hd : d.key = key
  · exact hd ▸ Store.taken_residentOf_self hkey
  · rw [Store.taken_residentOf_ne hd (ht.key_ne hpin), hres]

end

/-- DEMAND_TAKES_LINE is the cache's service of the waiting demands and the park test (R88, R151). -/
theorem exec_demandTakesLine (u : Drive) (s : State) :
    exec (.demandTakesLine u) s =
      .next (s.modStore fun st => Store.evalIfFilled st (st.serveWaiting u) u).settlePark := rfl

/-- A demand that stays WAITING leaves only the park test (R88, R151). -/
theorem exec_demandTakesLine_waits {u : Drive} {s : State} {d : Demand} (hd : (s.store.unit u).demands = [d])
    (hw : d.stage = .waiting) (h : s.store.chooseLine u = none ∨ (s.store.lineOf d.key).isSome = true) :
    exec (.demandTakesLine u) s = .next s.settlePark := by
  have hserve : s.store.serveWaiting u = s.store := by rw [Store.serveWaiting_single hd hw, Store.serveOne_waits h]
  have heval : Store.evalIfFilled s.store s.store u = s.store := Store.evalIfFilled_eq_self fun _ _ hres => hres
  rw [exec_demandTakesLine, State.modStore, hserve, heval]

/-- A demand that may take a line takes it, and asks for the header of its track (R87, R90). -/
theorem exec_demandTakesLine_takes {u : Drive} {s : State} {d : Demand} {l : Fin 8} {e : Entry} {map : BitVec 168}
    (hd : (s.store.unit u).demands = [d]) (hw : d.stage = .waiting) (hcls : d.cls = .demand)
    (hkey : s.store.lineOf d.key = none) (hchoose : s.store.chooseLine u = some l) (ht : s.store.Takeable u l)
    (he : (s.store.unit u).mount.entry = some e) (hm : (s.store.unit u).mount.map = some map)
    (hbit : mapBit map (e.trackIndex d.key) = true) (hlink : s.store.link.available = true) :
    exec (.demandTakesLine u) s = .next
      { s with store := (s.store.taken u l d).askFill .demand ⟨l, false, d.age, e.slotStart d.key, 1⟩ }.settlePark := by
  have hserve : s.store.serveWaiting u = (s.store.taken u l d).askFill .demand ⟨l, false, d.age, e.slotStart d.key, 1⟩ := by
    rw [Store.serveWaiting_single hd hw, Store.serveOne_taken hd hkey hchoose ht he hm hbit hlink, hcls]
  rw [exec_demandTakesLine, State.modStore, hserve, Store.evalIfFilled_taken hkey ht]

/-! ### The obligations -/

/-- Settles O30: a later INDEX mark goes to the parse, a first one to the start of a format span. -/
theorem indexMarkSetsClaimPosition : Obligations.IndexMarkSetsClaimPosition := by
  refine ⟨fun s e i m ident c hst hcls hk => ?_, fun s e i m ident hcls hk => ⟨fun key ht hst hl => ?_, fun h => ?_⟩⟩
  · rw [Store.recognized_parsing hcls hst, Store.parseMark_index hk]
    rfl
  · rw [Store.recognized_first hcls (.inr hk), Store.startFormat_claims ht hst hl, Store.parseMark_index]
    · rfl
    · exact hk
  · rw [Store.recognized_first hcls (.inr hk), Store.startFormat_discards h]
    rfl

/-- Settles O31: the marks go to the parse or begin the span, and the bytes of a field are taken one by one until its CRC completes it. -/
theorem identFieldGivesNewSector : Obligations.IdentFieldGivesNewSector := by
  unfold Obligations.IdentFieldGivesNewSector
  intro put opened staged
  refine ⟨?idMark, ?idField, ?dataMark, ?dataField⟩
  case idMark =>
    intro s e i m ident hk
    refine ⟨fun hcls => ⟨fun key ht hst hl => ?_, fun h => ?_⟩, fun c hcls hst => ?_⟩
    · rw [Store.recognized_first hcls (.inl hk), Store.startFormat_claims ht hst hl, Store.parseMark_ident, fieldPreset_eq]
      · rfl
      · exact hk
    · rw [Store.recognized_first hcls (.inl hk), Store.startFormat_discards h]
      rfl
    · rw [Store.recognized_parsing hcls hst, Store.parseMark_ident hk, fieldPreset_eq]
      rfl
  case idField =>
    intro s claim c h r n hi lo keep hst hf hlen hcount htaken _
    rw [show [c, h, r, n, hi, lo] = [c, h, r, n] ++ [hi, lo] from rfl,
      Store.foldl_fieldByte_identField hf hcount htaken (by simp [hlen])]
    cases keep with
    | true =>
      rw [Store.fieldComplete_ident_kept (c := claim) (by simp [hf]) (by simp [hst])]
      simp [byteAt]
    | false =>
      rw [Store.fieldComplete_dropped (.inl (by simp [hf]))]
      simp [hst]
  case dataMark =>
    intro s e i m ident c hk hcls hst
    rw [Store.recognized_parsing hcls hst]
    refine ⟨fun hlat => Store.parseMark_data_ignored hk hlat, fun older x hlat hc => ⟨fun hx hroom => ?_, fun h => ?_⟩⟩
    · rw [Store.parseMark_data_kept hk hlat hc hx hroom, fieldPreset_eq]
      rfl
    · rw [Store.parseMark_data_dropped hk hlat hc h, fieldPreset_eq]
      rfl
  case dataField =>
    intro s c bytes hst hcount _
    refine ⟨fun older x part hf hc hx hpart => ?_, fun hf hi lo hbytes => ?_⟩
    · have hlast := Store.staging_eq_of_last hst hc hx
      refine ⟨fun hle => ?_, fun hi lo hbytes => ?_⟩
      · rw [Store.foldl_fieldByte_newData _ hf hlast (by omega) hpart, hcount, overwrite_start]
        exact ⟨rfl, rfl⟩
      · rw [Store.foldl_fieldByte_newDataField hf hlast hcount hpart hbytes]
        simp
    · rw [Store.foldl_fieldByte_droppedField hf hcount hbytes]
      simp

/-- Settles O35: the line the statement names is the one the model chooses, and taking it fills no key of the pin set, so that prefetch
is not evaluated. -/
theorem demandTakesFreeLine : Obligations.DemandTakesFreeLine := by
  intro u s d hd hw hcls below reusable chosen
  refine ⟨fun l e map hkey hl he hm hbit hlink => ?_, fun hfull hnone => ?_, fun hheld => ?_⟩
  · have hchoose : s.store.chooseLine u = some l ∧ s.store.Takeable u l := by
      rcases hl with ⟨hfree, hlow, hbelow⟩ | ⟨hfull, hchosen⟩
      · exact ⟨Store.chooseLine_free (by rw [hfree]; rfl) hlow hbelow, .inl hfree⟩
      · have hleast : s.store.LeastPresented u l := hchosen
        exact ⟨(Store.chooseLine_reuse hfull).trans (Store.reuseLine_eq_some hleast), .inr hleast.reusable⟩
    obtain ⟨hchoose, ht⟩ := hchoose
    rw [exec_demandTakesLine_takes hd hw hcls hkey hchoose ht he hm hbit hlink, Store.askFill_demand,
      Store.taken_wbGrant, Store.taken_link]
    exact ⟨_, rfl⟩
  · exact exec_demandTakesLine_waits hd hw (.inl ((Store.chooseLine_reuse hfull).trans (Store.reuseLine_eq_none hnone)))
  · exact exec_demandTakesLine_waits hd hw (.inr hheld)

end Sys2Proof.Machine

/-! PROOFS. Write-back: the lines that a linger expiry queues (O38) and the block of a present-map write (O53). -/

namespace Sys2Proof.Machine

/-! ### The write-back queue (R103, R105) -/

/-- The given lines join the tail of the write-back queue. -/
def Store.joinTail (s : Store) (xs : List (Fin 8)) : Store := { s with wb := { s.wb with queue := s.wb.queue ++ xs } }

@[simp] theorem Store.joinTail_queue (s : Store) (xs : List (Fin 8)) : (s.joinTail xs).wb.queue = s.wb.queue ++ xs := rfl
@[simp] theorem Store.joinTail_line (s : Store) (xs : List (Fin 8)) (l : Fin 8) : (s.joinTail xs).line l = s.line l := rfl
@[simp] theorem Store.joinTail_link (s : Store) (xs : List (Fin 8)) : (s.joinTail xs).link = s.link := rfl
@[simp] theorem Store.joinTail_nil (s : Store) : s.joinTail [] = s := by simp [Store.joinTail]
@[simp] theorem Store.joinTail_joinTail (s : Store) (xs ys : List (Fin 8)) :
    (s.joinTail xs).joinTail ys = s.joinTail (xs ++ ys) := by
  simp [Store.joinTail]

/-- A queued line is not added again (R103). -/
theorem Store.queueTail_of_mem {s : Store} {l : Fin 8} (h : l ∈ s.wb.queue) : s.queueTail l = s := if_neg fun hadd => hadd.2 h

/-- A DIRTY line that is not queued joins the tail (R103). -/
theorem Store.queueTail_of_not_mem {s : Store} {l : Fin 8} (hd : (s.line l).state = .dirty) (h : l ∉ s.wb.queue) :
    s.queueTail l = s.joinTail [l] := if_pos ⟨hd, h⟩

/-- Adding several DIRTY lines at the tail, in turn, adds those that are not queued, in their order (R103). -/
theorem Store.foldl_queueTail {xs : List (Fin 8)} (s : Store) (hnodup : xs.Nodup) (hdirty : ∀ l ∈ xs, (s.line l).state = .dirty) :
    xs.foldl Store.queueTail s = s.joinTail (xs.filter fun l => decide (l ∉ s.wb.queue)) := by
  induction xs generalizing s with
  | nil => simp
  | cons x xs ih =>
    obtain ⟨hx, hnodup⟩ := List.nodup_cons.1 hnodup
    obtain ⟨hxd, hdirty⟩ := List.forall_mem_cons.1 hdirty
    rw [List.foldl_cons]
    by_cases hq : x ∈ s.wb.queue
    · rw [Store.queueTail_of_mem hq, ih s hnodup hdirty, List.filter_cons_of_neg (by simpa using hq)]
    · have hrest : (xs.filter fun l => decide (l ∉ (s.joinTail [x]).wb.queue)) = xs.filter fun l => decide (l ∉ s.wb.queue) :=
        List.filter_congr fun l hl => by simp [ne_of_mem_of_not_mem hl hx]
      rw [Store.queueTail_of_not_mem hxd hq, ih (s.joinTail [x]) hnodup hdirty, hrest, Store.joinTail_joinTail,
        List.filter_cons_of_pos (by simpa using hq), List.singleton_append]

@[simp] theorem Store.mem_linesIn {s : Store} {u : Drive} {st : LineState} {l : Fin 8} :
    l ∈ s.linesIn u st ↔ (s.line l).owner = some u ∧ (s.line l).state = st := by
  have hall : l ∈ lineNumbers := by revert l; decide
  simp [Store.linesIn, hall]

theorem Store.nodup_linesIn (s : Store) (u : Drive) (st : LineState) : (s.linesIn u st).Nodup :=
  List.Pairwise.filter _ (show lineNumbers.Nodup by decide)

/-- Queueing a unit's lines adds, ascending and at the tail, its DIRTY lines that are not queued (R105). -/
theorem Store.queueUnit_eq (s : Store) (u : Drive) :
    s.queueUnit u = s.joinTail
      (lineNumbers.filter fun l => decide ((s.line l).owner = some u ∧ (s.line l).state = .dirty ∧ l ∉ s.wb.queue)) := by
  rw [Store.queueUnit, Store.foldl_queueTail s (s.nodup_linesIn u .dirty) fun l hl => (Store.mem_linesIn.1 hl).2, Store.linesIn,
    List.filter_filter]
  refine congrArg s.joinTail (List.filter_congr fun l _ => ?_)
  simp [and_comm, and_assoc]

/-- A link that is not PARKED does not wake (R152). -/
theorem Store.wake_of_ne_parked {s : Store} (h : s.link.state ≠ .parked) : s.wake = s := if_neg h

/-- Away from PARKED, a linger expiry idles the timer and queues the unit's lines, and nothing else (R105). -/
theorem Store.lingerOut_eq {s : Store} (u : Drive) (h : s.link.state ≠ .parked) :
    s.lingerOut u = (s.setUnit u { s.unit u with linger := none }).queueUnit u := by
  have hawake : ((s.setUnit u { s.unit u with linger := none }).queueUnit u).link.state ≠ .parked := by
    rw [Store.queueUnit_eq, Store.joinTail_link, Store.setUnit_link]
    exact h
  simp only [Store.lingerOut, Store.modUnit, Store.wake_of_ne_parked hawake, ite_self]

/-- A running linger timer expires by LINGER_EXPIRY (R105). -/
theorem exec_lingerExpiry {u : Drive} {s : State} (h : (s.store.unit u).linger.isSome = true) :
    exec (.lingerExpiry u) s = .next (s.modStore fun st => st.lingerOut u).settlePark := if_pos h

/-- Settles O38: queueing the unit's lines in turn is one append of those not queued, and the link has no need to wake. -/
theorem lingerExpiryQueuesDirtyLines : Obligations.LingerExpiryQueuesDirtyLines := by
  intro u s hrunning hlink
  rw [exec_lingerExpiry hrunning, State.modStore, Store.lingerOut_eq u hlink, Store.queueUnit_eq]
  simp only [Store.joinTail, Store.setUnit_wb, Store.setUnit_line, lineNumbers]

/-! ### Little-endian fields (00, Card data) -/

@[simp] theorem leBytes_length (n size : Nat) : (leBytes n size).length = size := by
  induction size generalizing n with
  | zero => rfl
  | succ size ih => simp [leBytes, ih]

/-- A field written in `size` bytes reads back as the number, modulo what the bytes can hold. -/
theorem leAt_leBytes (xs ys : List Byte) (n size : Nat) :
    leAt (xs ++ leBytes n size ++ ys) xs.length size = n % 256 ^ size := by
  induction size generalizing xs n with
  | zero => simp [leAt, Nat.mod_one]
  | succ size ih =>
    have hhead : byteAt (xs ++ leBytes n (size + 1) ++ ys) xs.length = BitVec.ofNat 8 n := by simp [byteAt, leBytes]
    have hsplit : xs ++ leBytes n (size + 1) ++ ys = (xs ++ [BitVec.ofNat 8 n]) ++ leBytes (n / 256) size ++ ys := by simp [leBytes]
    have htail : leAt (xs ++ leBytes n (size + 1) ++ ys) (xs.length + 1) size = n / 256 % 256 ^ size := by
      rw [hsplit]
      simpa using ih (xs ++ [BitVec.ofNat 8 n]) (n / 256)
    calc leAt (xs ++ leBytes n (size + 1) ++ ys) xs.length (size + 1)
        = n % 256 + 256 * (n / 256 % 256 ^ size) := by rw [leAt, hhead, htail, BitVec.toNat_ofNat]
      _ = n % 256 ^ (size + 1) := by rw [Nat.pow_succ', Nat.mod_mul]

/-! ### The image header block (R114, R125, R181) -/

@[simp] theorem imageHeaderBlock_length (e : Entry) (m : BitVec 168) : (imageHeaderBlock e m).length = 512 := by
  simp only [imageHeaderBlock, List.length_append, leBytes_length, List.length_replicate]
  rfl

/-- The composed block matches its entry, whose copies fit a byte each (R125). -/
theorem headerMatches_imageHeaderBlock {e : Entry} (m : BitVec 168) (hslot : e.slot < 256) (hcimg : e.cimg < 256)
    (hheads : e.heads < 256) : headerMatches e (imageHeaderBlock e m) = true := by
  have hsig : (imageHeaderBlock e m).take 8 = imageSignature := rfl
  have h8 : byteAt (imageHeaderBlock e m) 8 = BitVec.ofNat 8 e.slot := rfl
  have h9 : byteAt (imageHeaderBlock e m) 9 = BitVec.ofNat 8 e.cimg := rfl
  have h10 : byteAt (imageHeaderBlock e m) 10 = BitVec.ofNat 8 e.heads := rfl
  simp [headerMatches, hsig, h8, h9, h10, Nat.mod_eq_of_lt, hslot, hcimg, hheads]

/-- The 21 map bytes hold the 168 bits exactly (R181). -/
@[simp] theorem headerMap_imageHeaderBlock (e : Entry) (m : BitVec 168) : headerMap (imageHeaderBlock e m) = m := by
  have hfield : leAt (imageHeaderBlock e m) 32 21 = m.toNat % 256 ^ 21 := leAt_leBytes _ _ _ _
  have hexact : m.toNat % 256 ^ 21 = m.toNat := Nat.mod_eq_of_lt m.isLt
  rw [headerMap, hfield, hexact, BitVec.ofNat_toNat, BitVec.setWidth_eq]

/-- Setting bit `t` of a map sets that bit alone (R114). -/
theorem getLsbD_setMapBit (m : BitVec 168) {t : Nat} (ht : t < 168) (i : Nat) :
    (setMapBit m t).getLsbD i = (decide (i = t) || m.getLsbD i) := by
  have hbit : ((1 : BitVec 168) <<< t).getLsbD i = decide (i = t) := by
    rw [show (1 : BitVec 168) <<< t = BitVec.twoPow 168 t from rfl, BitVec.getLsbD_twoPow]
    simp [ht, eq_comm]
  rw [setMapBit, BitVec.getLsbD_or, hbit, Bool.or_comm]

/-- Settles O53: the block's fields read back, and the map in it is the one with the track's bit set. -/
theorem presentMapWriteReadsBack : Obligations.PresentMapWriteReadsBack := by
  intro e map t hslot hcimg hheads ht
  refine ⟨imageHeaderBlock_length e _, headerMatches_imageHeaderBlock _ hslot hcimg hheads, fun i => ?_⟩
  rw [headerMap_imageHeaderBlock, getLsbD_setMapBit map ht]

end Sys2Proof.Machine
